-- ==== Sys2Proof/Word.lean ====
section
/-! DEFINITION. The two widths of the hardware: a byte (R11, byte width 8) and the checksum word (R11, width 16). -/

namespace Sys2Proof

/-- A `u8`: one wire byte, one buffer cell, one content byte (`00_scope.md` section 6). -/
abbrev Byte := BitVec 8

/-- A `u16`: a checksum value (`00_scope.md` section 6, R11). -/
abbrev Word16 := BitVec 16

end Sys2Proof
end

