-- ==== Sys2Proof/Config.lean ====
section
/-! DEFINITION. The hardwired constants of the block (R11, R31) and the one construction-time parameter's value in the
state the interface calls reset (DESIGN CHOICE, log 1). -/

namespace Sys2Proof.Config

/-- The boundary marker `FLAG` (R11, R82). -/
def flag : Byte := 0x7E

/-- The escape marker `ESC` (R11, R82). -/
def esc : Byte := 0x7D

/-- The operand of the escape transform, `XOR_MASK` (R11, R82). -/
def xorMask : Byte := 0x20

/-- The checksum seed `CRC_SEED`, both directions (R11, R111). -/
def crcSeed : Word16 := 0xFFFF

/-- DESIGN CHOICE (log 1, unsafe): the `MAX_FRAME_LENGTH` with which the endpoint `State.reset` is constructed. The spec
leaves it an open parameter (R10, D3). Every other definition takes it from the state's field, and no obligation rests
on this number; 16 is the largest value the spec's own vectors use (V10). -/
def maxFrameLength : Nat := 16

end Sys2Proof.Config
end

