-- ==== Sys2Proof/Machine/CrcEngine.lean ====
section
/-! DEFINITION. The CRC Engine: a pure function, no state (R8, R110). -/

namespace Sys2Proof.Machine

/-- `crc_update` (R110), line by line of the rule's second listing: `t1`, `t2` are bytes, the result a 16-bit word. -/
def crcUpdate (crc : Word16) (byte : Byte) : Word16 :=
  let t1 : Byte := byte ^^^ crc.setWidth 8
  let t2 : Byte := t1 ^^^ (t1 <<< 4)
  let wide : Word16 := t2.setWidth 16
  ((wide <<< 8) ||| (crc >>> 8)) ^^^ (wide >>> 4) ^^^ (wide <<< 3)

/-- The fold of the checksum over content bytes, from the seed (R111, R112). -/
def crc (bytes : List Byte) : Word16 :=
  bytes.foldl crcUpdate Config.crcSeed

end Sys2Proof.Machine
end

