-- ==== Sys2Proof/Syntax.lean ====
section
/-! DEFINITION. The operation set (R9), the receive symbol classes (R86), the transmit symbols (R85) and the internal
sub-steps (R91): one constructor per row of spec/opcode_table.json, in the table's order. -/

namespace Sys2Proof

/-- The 23 rows of the opcode table (R91). -/
inductive Instr where
  /-- `RX_FLAG_ABORT`: the marker `7E` right after an escape marker (R152). -/
  | rxFlagAbort
  /-- `RX_FLAG_DELIVER`: the marker `7E` that closes a valid frame (R153). -/
  | rxFlagDeliver
  /-- `RX_FLAG_DISCARD`: the marker `7E` in every other case (R154). -/
  | rxFlagDiscard
  /-- `RX_ESC`: the escape marker `7D` (R156). -/
  | rxEsc
  /-- `RX_DATA_ESCAPED`: the wire byte after an escape marker (R157). -/
  | rxDataEscaped (b : Byte)
  /-- `RX_DATA`: a literal wire byte (R158). -/
  | rxData (b : Byte)
  /-- `TX_FLAG`: a boundary marker on the wire (R85). -/
  | txFlag
  /-- `TX_LIT`: a literal byte on the wire (R85). -/
  | txLit (b : Byte)
  /-- `TX_ESC7D`: the pair `7D 5D` (R85). -/
  | txEsc7d
  /-- `TX_ESC7E`: the pair `7D 5E` (R85). -/
  | txEsc7e
  /-- `CRC_UPDATE` (R110). -/
  | crcUpdate (crc : Word16) (byte : Byte)
  /-- `EMIT_ESCAPED` (R131). -/
  | emitEscaped (b : Byte)
  /-- `SEND_FRAME` (R130). -/
  | sendFrame (typeByte : Byte) (payload : List Byte)
  /-- `BYTE_RECEIVE` (R150). -/
  | byteReceive (b : Byte)
  /-- `ON_FRAME`, the upward event (R190); `length` is an integer (R193). -/
  | onFrame (typeByte : Byte) (payload : List Byte) (length : Int)
  /-- `WRITE_BYTE`, the downward event (R135). -/
  | writeByte (b : Byte)
  /-- `RESET` (R240). -/
  | reset
  /-- `TX_START`, streaming transmitter (R138). -/
  | txStart
  /-- `TX_BYTE`, streaming transmitter (R139). -/
  | txByte (b : Byte)
  /-- `TX_END`, streaming transmitter (R140). -/
  | txEnd
  /-- `FRAME_RESET`, internal sub-step (R151). -/
  | frameReset
  /-- `STORE`, internal sub-step (R159). -/
  | store (d : Byte)
  /-- `OVERFLOW`, internal sub-step (R160). -/
  | overflow
deriving DecidableEq, Repr

end Sys2Proof
end

