-- ==== Sys2Proof/WellFormed.lean ====
section
/-! DEFINITION. Which operand values an operation of the table can carry. -/

namespace Sys2Proof

/-- One of the two marker values, the only two bytes that are escaped (R82, R131). -/
def isMarker (b : Byte) : Bool :=
  b == Config.flag || b == Config.esc

/-- The records a delivery can carry (R190, R193): `length` counts the payload, or it is the degenerate delivery
(log 26). -/
def deliveryShape (typeByte : Byte) (payload : List Byte) (length : Int) : Bool :=
  length == (payload.length : Int) || (typeByte == 0xFF && payload == [] && length == -1)

/-- Well-formed operands, row by row.
A receive class carries only the wire bytes of its condition (R86), a literal is no marker (R85). -/
def Instr.wellFormed (i : Instr) : Bool :=
  match i with
  | .rxFlagAbort => true
  | .rxFlagDeliver => true
  | .rxFlagDiscard => true
  | .rxEsc => true
  | .rxDataEscaped b => b != Config.flag
  | .rxData b => !isMarker b
  | .txFlag => true
  | .txLit b => !isMarker b
  | .txEsc7d => true
  | .txEsc7e => true
  | .crcUpdate _ _ => true
  | .emitEscaped _ => true
  | .sendFrame _ _ => true
  | .byteReceive _ => true
  | .onFrame t p len => deliveryShape t p len
  | .writeByte _ => true
  | .reset => true
  | .txStart => true
  | .txByte _ => true
  | .txEnd => true
  | .frameReset => true
  | .store _ => true
  | .overflow => true

end Sys2Proof
end

