-- ==== Sys2Proof/Machine/State.lean ====
section
/-! DEFINITION. The state of one endpoint (R20 to R35), its three byte spaces (R50), the outcomes' reasons, and reset. -/

namespace Sys2Proof.Machine

/-- The receive buffer as listed cells (index, byte): indexes strictly rising, no cell listed that reads as an unlisted
one does (R22, R50 (a)). -/
abbrev Memory := List Host.Cell

/-- DESIGN CHOICE (log 2, unsafe): what a cell nothing has written reads as. The spec leaves it unspecified and says no
rule reads such a cell (R34, R37, U5). -/
def Memory.unlisted : Byte := 0

/-- The canonical form of the buffer: indexes strictly rising, no entry equal to the unlisted value. -/
def Memory.wf : Memory → Bool
  | [] => true
  | c :: rest => c.2 != Memory.unlisted && rest.all (fun d => decide (c.1 < d.1)) && Memory.wf rest

/-- One delivery upward, the record of R161 and R190. `length` is an integer: -1 for the degenerate frame (R193). -/
structure Delivery where
  typeByte : Byte
  payload : List Byte
  length : Int
deriving DecidableEq, Repr

/-- What the environment does next (R8 (c), R59): a wire byte arrives, or an operation is called. -/
inductive Request where
  /-- one byte of the incoming wire stream (R50 (b)) -/
  | wire (b : Byte)
  /-- one call of an operation through a port (R9, D1) -/
  | call (i : Instr)
deriving DecidableEq, Repr

/-- Why an in-progress frame is dropped (R211). A ghost value: no state holds it (R210, D16, log 16). -/
inductive DiscardCause where
  | checksumMismatch
  | runt
  | escapeBeforeBoundary
  | overflow
deriving DecidableEq, Repr

/-- One endpoint and the streams at its ports. -/
structure State where
  /-- `buffer` (R22) -/
  buffer : Memory
  /-- `position` (R23) -/
  position : Nat
  /-- `running_checksum` (R24) -/
  runningChecksum : Word16
  /-- `escape_pending` (R25) -/
  escapePending : Bool
  /-- `tx_fcs`, streaming transmitter (R30) -/
  txFcs : Word16
  /-- `tx_open`, streaming transmitter (R30) -/
  txOpen : Bool
  /-- the model's own bit: the open streamed frame has its type byte (R142; DEDUCED, log 4) -/
  txTyped : Bool
  /-- `MAX_FRAME_LENGTH`, constant after construction (R10, R31) -/
  maxFrameLength : Nat
  /-- what the environment does next, in one total order (R50 (b), R59; log 5) -/
  inputs : List Request
  /-- the outgoing wire stream, in emission order (R50 (c), R62, R135) -/
  sent : List Byte
  /-- the deliveries so far, in order (R161, R198) -/
  delivered : List Delivery
  /-- the model's own record: what `crc_update` calls answered, in order (R110; DESIGN CHOICE, log 12) -/
  returned : List Word16
deriving DecidableEq, Repr

/-- The only fault. -/
inductive Fault where
  /-- Raised by a receive step that would touch a buffer cell above `MAX_FRAME_LENGTH`, which does not exist (R22,
  R58). Only states outside R26 get there. Safe: the model stops. -/
  | bufferBound (index : Nat)
deriving DecidableEq, Repr

/-- Why the model gives a request no step. -/
inductive Refusal where
  /-- An instruction without a meaning yet. Safe. No arm of this model uses it. -/
  | notModelled (mnemonic : String)
  /-- `TX_START` (R142, U10) or `SEND_FRAME` (R142; log 13) with `tx_open` true: two frames would interleave. Safe. -/
  | txAlreadyOpen
  /-- `TX_BYTE` or `TX_END` with `tx_open` false (R142, U10). Safe. -/
  | txNotOpen
  /-- `TX_END` directly after `TX_START`, a frame with no type byte (R142, U10). Safe. -/
  | txNoTypeByte
  /-- A receive class run in a state, or with a byte, outside its condition in R86, which is another class (log 7). Safe. -/
  | rxClassCondition
  /-- `TX_LIT` of a marker value, which R85 excludes (log 25). Safe. -/
  | litIsMarker
  /-- A call of a row that is none of R9's calls (a receive class, a transmit symbol, an event, a sub-step): raised by
  `step`, since the block accepts no other call (R217, R223; log 8). Safe. -/
  | notCallable
deriving DecidableEq, Repr

/-- The endpoint right after construction or `RESET` with the given `MAX_FRAME_LENGTH` (R34), no byte yet on any stream.
`txFcs` is a DESIGN CHOICE (log 3, unsafe), the buffer lists no cell (log 2). -/
def State.atReset (maxFrameLength : Nat) : State where
  buffer := []
  position := 0
  runningChecksum := Config.crcSeed
  escapePending := false
  txFcs := 0
  txOpen := false
  txTyped := false
  maxFrameLength := maxFrameLength
  inputs := []
  sent := []
  delivered := []
  returned := []

/-- Construction of an endpoint (R243): refused for `MAX_FRAME_LENGTH = 0` (R10, R250, U3; log 18). -/
def State.construct (maxFrameLength : Nat) : Option State :=
  if maxFrameLength = 0 then none else some (State.atReset maxFrameLength)

/-- The machine right after reset (R34), at the constructed value of log 1. -/
def State.reset : State := State.atReset Config.maxFrameLength

end Sys2Proof.Machine
end

