-- ==== Sys2Proof/Machine/Ops.lean ====
section
/-! DEFINITION. The named operations over the buffer and the state that the meanings share. -/

namespace Sys2Proof.Machine

/-- `buffer[i]` (R51, R56 (c)). -/
def Memory.read : Memory → Nat → Byte
  | [], _ => Memory.unlisted
  | c :: rest, i => if c.1 = i then c.2 else Memory.read rest i

/-- The cells `c :: rest` with `(i, v)` put first, or left out when `v` is what an unlisted cell reads as. -/
def Memory.put (i : Nat) (v : Byte) (rest : Memory) : Memory :=
  if v = Memory.unlisted then rest else (i, v) :: rest

/-- `buffer[i] <- v` (R51), in the canonical form. -/
def Memory.write : Memory → Nat → Byte → Memory
  | [], i, v => Memory.put i v []
  | c :: rest, i, v =>
    if i < c.1 then Memory.put i v (c :: rest)
    else if i = c.1 then Memory.put i v rest
    else c :: Memory.write rest i v

/-- The half-open slice `buffer[lo .. hi)`, empty when `hi ≤ lo` (`00_scope.md` section 6). -/
def Memory.slice (m : Memory) (lo hi : Nat) : List Byte :=
  (List.range' lo (hi - lo)).map m.read

/-- The cell exists: the buffer has `MAX_FRAME_LENGTH + 1` cells (R22). -/
def State.hasCell (s : State) (i : Nat) : Bool :=
  decide (i ≤ s.maxFrameLength)

/-- `emit(b)`: one `write_byte` (R135). The sink always accepts (D15, log 6). -/
def emit (b : Byte) (s : State) : State :=
  { s with sent := s.sent ++ [b] }

/-- `deliver(...)`: one `on_frame`, the payload by value (R190, R192, D11). -/
def deliver (d : Delivery) (s : State) : State :=
  { s with delivered := s.delivered ++ [d] }

/-- The answer of a `crc_update` call, recorded (R110; log 12). -/
def answer (w : Word16) (s : State) : State :=
  { s with returned := s.returned ++ [w] }

/-- `frame_reset` (R151): two elements and nothing else. -/
def frameReset (s : State) : State :=
  { s with position := 0, runningChecksum := Config.crcSeed }

/-- `discard(<cause>)`, what this hardware has in place of taking an exception (R210, R216): nothing is saved and
nothing is vectored; the whole effect is `frame_reset`, and for `EscapeBeforeBoundary` the flag is cleared too. The
return beside it is empty: there is nothing to return from (R218). -/
def discardFrame (cause : DiscardCause) (s : State) : State :=
  match cause with
  | .escapeBeforeBoundary => frameReset { s with escapePending := false }
  | .checksumMismatch => frameReset s
  | .runt => frameReset s
  | .overflow => frameReset s

/-- The storage step (R159), its three lines in order. -/
def storeByte (d : Byte) (s : State) : State :=
  let written := s.buffer.write s.position d
  let folded :=
    if 2 ≤ s.position then crcUpdate s.runningChecksum (written.read (s.position - 2)) else s.runningChecksum
  { s with buffer := written, runningChecksum := folded, position := s.position + 1 }

/-- The overflow step (R160): the test is equality, on the position after the increment. -/
def overflowCheck (s : State) : State :=
  if s.position = s.maxFrameLength then discardFrame .overflow s else s

/-- Storage and then the overflow step, as R157 and R158 enter them; a cell that does not exist is not written. -/
def storeThenCheck (d : Byte) (s : State) : Host.Outcome State Fault Refusal :=
  if s.hasCell s.position then .next (overflowCheck (storeByte d s))
  else .fault (.bufferBound s.position)

/-- The streaming transmitter's registers (R138): a frame is opened, no type byte yet. -/
def openFrame (s : State) : State :=
  { s with txFcs := Config.crcSeed, txOpen := true, txTyped := false }

/-- One content byte folded into `tx_fcs` (R139). -/
def foldTx (b : Byte) (s : State) : State :=
  { s with txFcs := crcUpdate s.txFcs b, txTyped := true }

/-- The streamed frame is closed (R140); `tx_fcs` keeps its value. -/
def closeFrame (s : State) : State :=
  { s with txOpen := false, txTyped := false }

end Sys2Proof.Machine
end

