-- ==== Sys2Proof/Machine/Event.lean ====
section
/-! DEFINITION. The two events at the block's ports (R135, R190). -/

namespace Sys2Proof.Machine

/-- `ON_FRAME` (R190): the application receives the record. Within a run only `RX_FLAG_DELIVER` raises it (log 8). -/
def execOnFrame (typeByte : Byte) (payload : List Byte) (length : Int) (s : State) :
    Host.Outcome State Fault Refusal :=
  .next (deliver (Delivery.mk typeByte payload length) s)

/-- `WRITE_BYTE` (R135): the sink takes one wire byte. The block raises it, no caller does (log 8). -/
def execWriteByte (b : Byte) (s : State) : Host.Outcome State Fault Refusal :=
  .next (emit b s)

end Sys2Proof.Machine
end

