-- ==== Sys2Proof/Decode.lean ====
section
/-! DEFINITION. From wire bytes to symbols and back. The receiver's decode (R86) reads one byte together with two facts
of the Receive State; the transmit symbols (R85) are read from the outgoing bytes. Operations, events and sub-steps
have no bit pattern (R91, D1). -/

namespace Sys2Proof

/-- The receiver's decode (R86), tests in the table's priority order. `frameMatches` says that `position ≥ 2` and
`running_checksum == rx_fcs`. Total: every byte in every state is of exactly one class. -/
def decodeRx (escapePending frameMatches : Bool) (b : Byte) : Instr :=
  if b = Config.flag then
    if escapePending then .rxFlagAbort
    else if frameMatches then .rxFlagDeliver
    else .rxFlagDiscard
  else if escapePending then .rxDataEscaped b
  else if b = Config.esc then .rxEsc
  else .rxData b

/-- Why bytes are no transmit symbol. -/
inductive DecodeError where
  /-- There is no byte to read. -/
  | noBytes
  /-- The bytes end after an escape marker. -/
  | truncatedEscape
  /-- `7D` followed by a byte other than `5D` and `5E`, which the transmitter never emits (R85). -/
  | notATransmitPair (b : Byte)
deriving DecidableEq, Repr

/-- The transmit symbol that begins with a byte other than `7D` (R85). -/
def txSymbolOfByte (b : Byte) : Instr :=
  if b = Config.flag then .txFlag else .txLit b

/-- The transmit symbol whose second byte, after `7D`, is `b` (R85). -/
def txSymbolOfPair (b : Byte) : Except DecodeError Instr :=
  if b = 0x5D then .ok .txEsc7d
  else if b = 0x5E then .ok .txEsc7e
  else .error (.notATransmitPair b)

/-- One transmit symbol from the front of a byte list, with the bytes left over (R85, R87). -/
def decodeTx (bytes : List Byte) : Except DecodeError (Instr × List Byte) :=
  match bytes with
  | [] => .error .noBytes
  | b :: rest =>
    if b = Config.esc then
      match rest with
      | [] => .error .truncatedEscape
      | c :: rest' =>
        match txSymbolOfPair c with
        | .ok i => .ok (i, rest')
        | .error e => .error e
    else .ok (txSymbolOfByte b, rest)

/-- All the transmit symbols of a byte list; the flag says that the byte before was `7D`. -/
def decodeTxAll : Bool → List Byte → Except DecodeError (List Instr)
  | false, [] => .ok []
  | true, [] => .error .truncatedEscape
  | false, b :: rest =>
    if b = Config.esc then decodeTxAll true rest
    else
      match decodeTxAll false rest with
      | .ok syms => .ok (txSymbolOfByte b :: syms)
      | .error e => .error e
  | true, b :: rest =>
    match txSymbolOfPair b with
    | .error e => .error e
    | .ok i =>
      match decodeTxAll false rest with
      | .ok syms => .ok (i :: syms)
      | .error e => .error e

/-- The symbol that `emit_escaped b` puts on the wire (R85, R131). -/
def txSymbol (b : Byte) : Instr :=
  if b = Config.esc then .txEsc7d
  else if b = Config.flag then .txEsc7e
  else .txLit b

/-- The wire bytes of a row (R85, R86); none for a row without a bit pattern (R91). -/
def encode (i : Instr) : Option (List Byte) :=
  match i with
  | .rxFlagAbort => some [0x7E]
  | .rxFlagDeliver => some [0x7E]
  | .rxFlagDiscard => some [0x7E]
  | .rxEsc => some [0x7D]
  | .rxDataEscaped b => some [b]
  | .rxData b => some [b]
  | .txFlag => some [0x7E]
  | .txLit b => some [b]
  | .txEsc7d => some [0x7D, 0x5D]
  | .txEsc7e => some [0x7D, 0x5E]
  | .crcUpdate _ _ => none
  | .emitEscaped _ => none
  | .sendFrame _ _ => none
  | .byteReceive _ => none
  | .onFrame _ _ _ => none
  | .writeByte _ => none
  | .reset => none
  | .txStart => none
  | .txByte _ => none
  | .txEnd => none
  | .frameReset => none
  | .store _ => none
  | .overflow => none

/-- A row of the opcode table read back from its bits (log 9). One byte is a wire byte, read as the receiver reads it
right after reset (flag clear, no frame). A value of two bytes is a transmit pair, whose first byte is bits 15..8: the
rows TX_ESC7D and TX_ESC7E say so in their own note. -/
def decodeTableWord (nbits w : Nat) : Option Instr :=
  if nbits < 8 then none
  else if w < 256 then some (decodeRx false false (BitVec.ofNat 8 w))
  else if w < 65536 then
    match decodeTx [BitVec.ofNat 8 (w / 256), BitVec.ofNat 8 w] with
    | .ok (i, []) => some i
    | _ => none
  else none

end Sys2Proof
end

