-- ==== Sys2Proof/Machine/Operands.lean ====
section
/-! DEFINITION. How operands are formed: the escape transform (R82), checksum assembly (R83), length assembly (R84), the
payload slice (R190), and the closed form of the wire (R131, R133). -/

namespace Sys2Proof.Machine

/-- `byte XOR 0x20`, its own inverse (R82). -/
def xorEscape (b : Byte) : Byte := b ^^^ Config.xorMask

/-- `lo8(v)` (`00_scope.md` section 6). -/
def lo8 (v : Word16) : Byte := v.setWidth 8

/-- `hi8(v)` (`00_scope.md` section 6). -/
def hi8 (v : Word16) : Byte := (v >>> 8).setWidth 8

/-- `(hi << 8) | (lo & 0xFF)` (R83), little-endian assembly of the received checksum. -/
def joinBytes (hi lo : Byte) : Word16 :=
  (hi.setWidth 16 <<< 8) ||| (lo.setWidth 16 &&& 0x00FF)

/-- `rx_fcs`, formed from the last two stored bytes; meaningful only when `position ≥ 2` (R83, R86). -/
def State.rxFcs (s : State) : Word16 :=
  joinBytes (s.buffer.read (s.position - 1)) (s.buffer.read (s.position - 2))

/-- The delivery of `n = position` stored bytes (R153, R190): type `buffer[0]`, payload the half-open slice
`buffer[1 .. n-2)` (D9, C5), length the integer `n - 3` (R84, D7). -/
def State.delivery (s : State) : Delivery where
  typeByte := s.buffer.read 0
  payload := s.buffer.slice 1 (s.position - 2)
  length := (s.position : Int) - 3

/-- The content bytes of the frame that ends now, `buffer[0 .. n-2)`, a derived view (R194, D8); its length is `n - 2`. -/
def State.content (s : State) : List Byte := s.buffer.slice 0 (s.position - 2)

/-- `length` on a port of `LEN_W` bits, two's complement (R193, D7). The width is an open parameter: an argument. -/
def Delivery.lengthOnPort (lenW : Nat) (d : Delivery) : BitVec lenW := BitVec.ofInt lenW d.length

/-- `POS_W`, the bits a register for `position` needs, `ceil(log2(MAX_FRAME_LENGTH + 1))` (R12, D3). -/
def State.positionWidth (s : State) : Nat := Nat.clog 2 (s.maxFrameLength + 1)

/-- `esc(b)`, the wire bytes of one unescaped byte (R131). -/
def escapeBytes (b : Byte) : List Byte :=
  if isMarker b then [Config.esc, xorEscape b] else [b]

/-- `wire(t, p)`, the closed form of what `send_frame` emits (R133). -/
def wire (t : Byte) (p : List Byte) : List Byte :=
  [Config.flag] ++ (t :: p).flatMap escapeBytes ++
    escapeBytes (lo8 (crc (t :: p))) ++ escapeBytes (hi8 (crc (t :: p))) ++ [Config.flag]

/-- `emit_escaped(b)` (R131), in the rule's order. -/
def emitEscaped (b : Byte) (s : State) : State :=
  if b = Config.esc || b = Config.flag then emit (xorEscape b) (emit Config.esc s) else emit b s

end Sys2Proof.Machine
end

