-- ==== Sys2Proof/Machine/Flags.lean ====
section
/-! DEFINITION. The one flag, `escape_pending` (R25, R28), the boundary's validity test (R153), and the receiver's view
that its decode reads (R86). -/

namespace Sys2Proof.Machine

/-- Set by `RX_ESC` and by nothing else (R25, R156). -/
def setEscape (s : State) : State := { s with escapePending := true }

/-- Cleared by `RX_FLAG_ABORT` and `RX_DATA_ESCAPED` (R25, R152, R157). -/
def clearEscape (s : State) : State := { s with escapePending := false }

/-- `position ≥ 2` and `running_checksum == rx_fcs` (R153); the comparison counts only when `position ≥ 2` (R86). -/
def State.frameMatches (s : State) : Bool :=
  decide (2 ≤ s.position) && s.runningChecksum == s.rxFcs

/-- The boundary comparison would read a cell that does not exist: index `position - 1` above `MAX_FRAME_LENGTH`. Only
states outside R26 (log 11). -/
def State.comparesOutside (s : State) : Bool :=
  decide (2 ≤ s.position) && !s.hasCell (s.position - 1)

/-- The class of a wire byte in a state (R86). -/
def State.classOf (s : State) (b : Byte) : Instr :=
  decodeRx s.escapePending s.frameMatches b

/-- The ghost cause of R211 that `byte_receive b` raises in a state, with the priorities of R215; none when it delivers,
sets the flag or stores without overflow. -/
def State.discardCause (s : State) (b : Byte) : Option DiscardCause :=
  if b = Config.flag then
    if s.escapePending then some .escapeBeforeBoundary
    else if s.position < 2 then some .runt
    else if s.runningChecksum = s.rxFcs then none
    else some .checksumMismatch
  else if b = Config.esc && !s.escapePending then none
  else if s.position + 1 = s.maxFrameLength then some .overflow
  else none

end Sys2Proof.Machine
end

