-- ==== Sys2Proof/Machine/Operation.lean ====
section
/-! DEFINITION. The eight operations (R9): the CRC Engine's call, the transmit path, the receive step, RESET and the
streaming transmitter. -/

namespace Sys2Proof.Machine

/-- `CRC_UPDATE` (R110): answers the function's value; no state of the block is read or written (R52). -/
def execCrcUpdate (c : Word16) (byte : Byte) (s : State) : Host.Outcome State Fault Refusal :=
  .next (answer (crcUpdate c byte) s)

/-- `EMIT_ESCAPED` (R131). -/
def execEmitEscaped (b : Byte) (s : State) : Host.Outcome State Fault Refusal :=
  .next (emitEscaped b s)

/-- Step 3 of `send_frame` (R130): for each content byte in order, update `fcs`, then emit the byte escaped. -/
def sendContent : List Byte → Word16 → State → Word16 × State
  | [], fcs, s => (fcs, s)
  | b :: rest, fcs, s => sendContent rest (crcUpdate fcs b) (emitEscaped b s)

/-- Step 4 of `send_frame` (R130): the low byte of `fcs`, then the high byte, each escaped, not folded. -/
def sendChecksum (fcs : Word16) (s : State) : State :=
  emitEscaped (hi8 fcs) (emitEscaped (lo8 fcs) s)

/-- Steps 1 to 5 of `send_frame` (R130). `fcs` is local (R30). -/
def sendAll (typeByte : Byte) (payload : List Byte) (s : State) : State :=
  let content := sendContent (typeByte :: payload) Config.crcSeed (emit Config.flag s)
  emit Config.flag (sendChecksum content.1 content.2)

/-- `SEND_FRAME` (R130): cannot fail, checks no length (R132). While a streamed frame, itself a `send_frame` (R137), is
open, a second one would interleave its bytes with it: refused (R142, D14; log 13). -/
def execSendFrame (typeByte : Byte) (payload : List Byte) (s : State) : Host.Outcome State Fault Refusal :=
  if s.txOpen then .refused .txAlreadyOpen else .next (sendAll typeByte payload s)

/-- `BYTE_RECEIVE` (R150), the rule's sequential pseudocode; the classes of R86 are its branches. -/
def execByteReceive (b : Byte) (s : State) : Host.Outcome State Fault Refusal :=
  if b = Config.flag then
    if s.escapePending then .next (discardFrame .escapeBeforeBoundary s)
    else if s.comparesOutside then .fault (.bufferBound (s.position - 1))
    else if s.frameMatches then .next (frameReset (deliver s.delivery s))
    else if s.position < 2 then .next (discardFrame .runt s)
    else .next (discardFrame .checksumMismatch s)
  else if s.escapePending then storeThenCheck (xorEscape b) (clearEscape s)
  else if b = Config.esc then .next (setEscape s)
  else storeThenCheck b s

/-- `RESET` (R240): `buffer`, `tx_fcs` and `MAX_FRAME_LENGTH` untouched, no byte emitted, no delivery. A byte on the wire
that has not arrived yet still arrives. -/
def execReset (s : State) : Host.Outcome State Fault Refusal :=
  .next { s with position := 0, runningChecksum := Config.crcSeed, escapePending := false,
                 txOpen := false, txTyped := false }

/-- `TX_START` (R138); refused while a frame is open (R142). -/
def execTxStart (s : State) : Host.Outcome State Fault Refusal :=
  if s.txOpen then .refused .txAlreadyOpen else .next (emit Config.flag (openFrame s))

/-- `TX_BYTE` (R139); refused with no frame open (R142). -/
def execTxByte (b : Byte) (s : State) : Host.Outcome State Fault Refusal :=
  if s.txOpen then .next (emitEscaped b (foldTx b s)) else .refused .txNotOpen

/-- `TX_END` (R140); refused with no frame open or no type byte yet (R142). -/
def execTxEnd (s : State) : Host.Outcome State Fault Refusal :=
  if !s.txOpen then .refused .txNotOpen
  else if !s.txTyped then .refused .txNoTypeByte
  else .next (closeFrame (emit Config.flag (sendChecksum s.txFcs s)))

end Sys2Proof.Machine
end

