-- ==== Sys2Proof/Machine/RxSymbol.lean ====
section
/-! DEFINITION. The six receive symbol classes (R152 to R158). Each has its action where its condition in R86 holds; in
another state the same byte is of another class, and the row run there is refused (log 7). -/

namespace Sys2Proof.Machine

/-- `RX_FLAG_ABORT` (R152): no delivery whatever the buffer holds. -/
def execRxFlagAbort (s : State) : Host.Outcome State Fault Refusal :=
  if s.escapePending then .next (discardFrame .escapeBeforeBoundary s) else .refused .rxClassCondition

/-- `RX_FLAG_DELIVER` (R153): the delivery first, then `frame_reset` (D11). -/
def execRxFlagDeliver (s : State) : Host.Outcome State Fault Refusal :=
  if s.escapePending || !s.frameMatches then .refused .rxClassCondition
  else if s.comparesOutside then .fault (.bufferBound (s.position - 1))
  else .next (frameReset (deliver s.delivery s))

/-- `RX_FLAG_DISCARD` (R154): a runt or a checksum mismatch (R211). -/
def execRxFlagDiscard (s : State) : Host.Outcome State Fault Refusal :=
  if s.escapePending || s.frameMatches then .refused .rxClassCondition
  else if s.comparesOutside then .fault (.bufferBound (s.position - 1))
  else if s.position < 2 then .next (discardFrame .runt s)
  else .next (discardFrame .checksumMismatch s)

/-- `RX_ESC` (R156): only the flag changes. -/
def execRxEsc (s : State) : Host.Outcome State Fault Refusal :=
  if s.escapePending then .refused .rxClassCondition else .next (setEscape s)

/-- `RX_DATA_ESCAPED` (R157): clear the flag, store the transformed byte, test for overflow. -/
def execRxDataEscaped (b : Byte) (s : State) : Host.Outcome State Fault Refusal :=
  if b = Config.flag || !s.escapePending then .refused .rxClassCondition
  else storeThenCheck (xorEscape b) (clearEscape s)

/-- `RX_DATA` (R158): store the byte as it is, test for overflow. -/
def execRxData (b : Byte) (s : State) : Host.Outcome State Fault Refusal :=
  if isMarker b || s.escapePending then .refused .rxClassCondition
  else storeThenCheck b s

end Sys2Proof.Machine
end

