-- ==== Sys2Proof/Machine/Substep.lean ====
section
/-! DEFINITION. The receiver's internal sub-steps (R151, R159, R160), each on its own. They happen only inside
`byte_receive`; no caller can invoke one (R223, R217; log 8, log 20). -/

namespace Sys2Proof.Machine

/-- `FRAME_RESET` (R151). -/
def execFrameReset (s : State) : Host.Outcome State Fault Refusal :=
  .next (frameReset s)

/-- `STORE` (R159), without the overflow step that follows it. -/
def execStore (d : Byte) (s : State) : Host.Outcome State Fault Refusal :=
  if s.hasCell s.position then .next (storeByte d s) else .fault (.bufferBound s.position)

/-- `OVERFLOW` (R160). -/
def execOverflow (s : State) : Host.Outcome State Fault Refusal :=
  .next (overflowCheck s)

end Sys2Proof.Machine
end

