-- ==== Sys2Proof/Machine/TxSymbol.lean ====
section
/-! DEFINITION. The four transmit symbols (R85): each puts its one or two wire bytes on the outgoing stream. -/

namespace Sys2Proof.Machine

/-- `TX_FLAG`: `7E`, unescaped (R85, R130 steps 2 and 5). -/
def execTxFlag (s : State) : Host.Outcome State Fault Refusal :=
  .next (emit Config.flag s)

/-- `TX_LIT`: the byte itself, any value but the two markers (R85, R131; log 25). -/
def execTxLit (b : Byte) (s : State) : Host.Outcome State Fault Refusal :=
  if isMarker b then .refused .litIsMarker else .next (emit b s)

/-- `TX_ESC7D`: `7D 5D` (R85). -/
def execTxEsc7d (s : State) : Host.Outcome State Fault Refusal :=
  .next (emit 0x5D (emit 0x7D s))

/-- `TX_ESC7E`: `7D 5E` (R85). -/
def execTxEsc7e (s : State) : Host.Outcome State Fault Refusal :=
  .next (emit 0x5E (emit 0x7D s))

end Sys2Proof.Machine
end

