-- ==== Sys2Proof/Machine/Dispatch.lean ====
section
/-! DEFINITION. One arm per row of the opcode table. -/

namespace Sys2Proof.Machine

def exec (i : Instr) (s : State) : Host.Outcome State Fault Refusal :=
  match i with
  -- receive symbol classes
  | .rxFlagAbort => Sys2Proof.Machine.execRxFlagAbort s
  | .rxFlagDeliver => Sys2Proof.Machine.execRxFlagDeliver s
  | .rxFlagDiscard => Sys2Proof.Machine.execRxFlagDiscard s
  | .rxEsc => Sys2Proof.Machine.execRxEsc s
  | .rxDataEscaped b => Sys2Proof.Machine.execRxDataEscaped b s
  | .rxData b => Sys2Proof.Machine.execRxData b s
  -- transmit symbols
  | .txFlag => Sys2Proof.Machine.execTxFlag s
  | .txLit b => Sys2Proof.Machine.execTxLit b s
  | .txEsc7d => Sys2Proof.Machine.execTxEsc7d s
  | .txEsc7e => Sys2Proof.Machine.execTxEsc7e s
  -- operations and events
  | .crcUpdate c byte => Sys2Proof.Machine.execCrcUpdate c byte s
  | .emitEscaped b => Sys2Proof.Machine.execEmitEscaped b s
  | .sendFrame typeByte payload => Sys2Proof.Machine.execSendFrame typeByte payload s
  | .byteReceive b => Sys2Proof.Machine.execByteReceive b s
  | .onFrame typeByte payload length => Sys2Proof.Machine.execOnFrame typeByte payload length s
  | .writeByte b => Sys2Proof.Machine.execWriteByte b s
  | .reset => Sys2Proof.Machine.execReset s
  | .txStart => Sys2Proof.Machine.execTxStart s
  | .txByte b => Sys2Proof.Machine.execTxByte b s
  | .txEnd => Sys2Proof.Machine.execTxEnd s
  -- internal sub-steps
  | .frameReset => Sys2Proof.Machine.execFrameReset s
  | .store d => Sys2Proof.Machine.execStore d s
  | .overflow => Sys2Proof.Machine.execOverflow s

end Sys2Proof.Machine
end

