-- ==== Sys2Proof/Machine/Fetch.lean ====
section
/-! DEFINITION. What the block does next: the front of `inputs` (R8, R21, R59). -/

namespace Sys2Proof.Machine

/-- The calls the block accepts: the operations of R9 and nothing else (R217; log 8). A receive class is reached only by
a wire byte (R86); a transmit symbol is emitted only by the transmit operations (R130, R131), through `write_byte`, which
the block calls (R135); `on_frame` is raised only by `RX_FLAG_DELIVER` (R190); a sub-step happens only inside
`byte_receive` (R223). -/
def callable (i : Instr) : Bool :=
  match i with
  | .rxFlagAbort => false
  | .rxFlagDeliver => false
  | .rxFlagDiscard => false
  | .rxEsc => false
  | .rxDataEscaped _ => false
  | .rxData _ => false
  | .txFlag => false
  | .txLit _ => false
  | .txEsc7d => false
  | .txEsc7e => false
  | .crcUpdate _ _ => true
  | .emitEscaped _ => true
  | .sendFrame _ _ => true
  | .byteReceive _ => true
  | .onFrame _ _ _ => false
  | .writeByte _ => false
  | .reset => true
  | .txStart => true
  | .txByte _ => true
  | .txEnd => true
  | .frameReset => false
  | .store _ => false
  | .overflow => false

/-- What the front of `inputs` asks for. -/
inductive Fetched where
  /-- nothing is asked: the block waits (R166, R245) -/
  | idle
  /-- run this row in this state, the request taken off (a wire byte is consumed once, R56 (d)) -/
  | run (i : Instr) (s : State)
  /-- a caller asks for a row no caller can invoke -/
  | bad
deriving DecidableEq, Repr

/-- Take the next request. A wire byte is decoded against the Receive State of this moment (R61, R86). -/
def fetch (s : State) : Fetched :=
  match s.inputs with
  | [] => .idle
  | .wire b :: rest => .run (s.classOf b) { s with inputs := rest }
  | .call i :: rest => if callable i then .run i { s with inputs := rest } else .bad

/-- A state in which the very next request is a table word (log 9, log 10). A one-byte word is a wire byte, and what a
wire byte is depends on the Receive State (R86): the in-progress frame is dropped and the flag cleared, so that it is
read as `decodeTableWord` reads it. A transmit pair is emitted by `emit_escaped` of the byte it stands for (R131), so
that is the call. Nothing is placed for a word that is none. -/
def placeWord (nbits w : Nat) (s : State) : State :=
  match decodeTableWord nbits w with
  | none => s
  | some _ =>
    if w < 256 then { frameReset (clearEscape s) with inputs := .wire (BitVec.ofNat 8 w) :: s.inputs }
    else { s with inputs := .call (.emitEscaped (xorEscape (BitVec.ofNat 8 w))) :: s.inputs }

end Sys2Proof.Machine
end

