-- ==== Sys2Proof/Machine/Step.lean ====
section
/-! DEFINITION. One step of the endpoint: one operation, atomic (R7, R56 (b)). -/

namespace Sys2Proof.Machine

/-- One step. With no request the state stays as it is, for as long as nothing arrives (R166). -/
def step (s : State) : Host.Outcome State Fault Refusal :=
  match fetch s with
  | .idle => .next s
  | .run i s' => exec i s'
  | .bad => .refused .notCallable

/-- The state with a table word as the very next request (log 9, log 10). -/
def State.withFetchWord (s : State) (nbits w : Nat) : State :=
  placeWord nbits w s

end Sys2Proof.Machine
end

