-- ==== Sys2Proof/Safety.lean ====
section
/-! DEFINITION. What counts as a good state and the terms in which claims are stated. -/

namespace Sys2Proof.Machine

/-- The receiver's part of two states is the same (R20). -/
def SameReceiver (s t : State) : Prop :=
  t.buffer = s.buffer ∧ t.position = s.position ∧ t.runningChecksum = s.runningChecksum ∧
    t.escapePending = s.escapePending

/-- The transmitter's part of two states is the same (R30). -/
def SameTransmitter (s t : State) : Prop :=
  t.txFcs = s.txFcs ∧ t.txOpen = s.txOpen ∧ t.txTyped = s.txTyped

/-- The parameter, the requests still to come and the recorded answers are the same. -/
def SameSurroundings (s t : State) : Prop :=
  t.maxFrameLength = s.maxFrameLength ∧ t.inputs = s.inputs ∧ t.returned = s.returned

/-- Every cell of the buffer reads the same, except possibly the given one. -/
def SameCellsExcept (i : Nat) (s t : State) : Prop :=
  ∀ j, j ≠ i → t.buffer.read j = s.buffer.read j

/-- The receiver is as after `RESET` or after any marker, the buffer's contents apart (R155, R241). -/
def ReceiverClean (s : State) : Prop :=
  s.position = 0 ∧ s.runningChecksum = Config.crcSeed ∧ s.escapePending = false

/-- The receiver's invariants between operations. -/
structure ReceiverInv (s : State) : Prop where
  /-- a legal parameter (R10) -/
  parameter : 1 ≤ s.maxFrameLength
  /-- R26 -/
  bound : s.position < s.maxFrameLength
  /-- R27: the checksum lags the buffer by two bytes -/
  lag : s.runningChecksum = crc (s.buffer.slice 0 (s.position - 2))
  /-- the buffer is in canonical form -/
  canonical : Memory.wf s.buffer = true
  /-- R53, R58: no cell at `MAX_FRAME_LENGTH` or above was ever written -/
  cells : ∀ c ∈ s.buffer, c.1 < s.maxFrameLength

/-- The streaming transmitter's invariants (R138 to R142): a typed frame is open, and an open frame without a type byte
still has the seed in `tx_fcs`. -/
structure TransmitterInv (s : State) : Prop where
  typed : s.txTyped = true → s.txOpen = true
  untyped : s.txOpen = true → s.txTyped = false → s.txFcs = Config.crcSeed

/-- What R190 says of a delivery under a given `MAX_FRAME_LENGTH`: the record's shape, and the range
`-1 .. MAX_FRAME_LENGTH - 4` of its length. -/
def DeliveryOk (maxFrameLength : Nat) (d : Delivery) : Prop :=
  deliveryShape d.typeByte d.payload d.length = true ∧ -1 ≤ d.length ∧ d.length ≤ (maxFrameLength : Int) - 4

/-- The model's whole invariant. -/
structure Inv (s : State) : Prop where
  receiver : ReceiverInv s
  transmitter : TransmitterInv s
  deliveries : ∀ d ∈ s.delivered, DeliveryOk s.maxFrameLength d

/-- The given wire bytes arrive next, before anything else that is asked (R245). -/
def State.feed (s : State) (bytes : List Byte) : State :=
  { s with inputs := bytes.map Request.wire ++ s.inputs }

/-- The given operations are called next, before anything else that is asked. -/
def State.ask (s : State) (ops : List Instr) : State :=
  { s with inputs := ops.map Request.call ++ s.inputs }

/-- A number of steps of `step`, stopping at a fault or a refusal. -/
def steps : Nat → State → Host.Outcome State Fault Refusal
  | 0, s => .next s
  | k + 1, s =>
    match step s with
    | .next t => steps k t
    | .fault r => .fault r
    | .refused r => .refused r

/-- Rows run one after another inside one operation, stopping at a fault or a refusal. -/
def runRows : List Instr → State → Host.Outcome State Fault Refusal
  | [], s => .next s
  | i :: rest, s =>
    match exec i s with
    | .next t => runRows rest t
    | .fault r => .fault r
    | .refused r => .refused r

/-- The receiver takes wire bytes, one step each (R161). -/
def State.receive (s : State) (bytes : List Byte) : Host.Outcome State Fault Refusal :=
  steps bytes.length (s.feed bytes)

/-- The bytes a receiver stores for wire bytes that hold no boundary marker (R82, R87, R88); the flag says whether
`escape_pending` is true before the first of them. -/
def unescape : Bool → List Byte → List Byte
  | _, [] => []
  | true, b :: rest => (b ^^^ 0x20) :: unescape false rest
  | false, b :: rest => if b = 0x7D then unescape true rest else b :: unescape false rest

/-- `escape_pending` after wire bytes that hold no boundary marker (R87). -/
def pendingAfter : Bool → List Byte → Bool
  | pending, [] => pending
  | true, _ :: rest => pendingAfter false rest
  | false, b :: rest => pendingAfter (b == 0x7D) rest

/-- What a storage step with `d` and the overflow step after it leave (R159, R160), in terms of reads. -/
structure StoredAndChecked (d : Byte) (s t : State) : Prop where
  stored : t.buffer.read s.position = d
  others : SameCellsExcept s.position s t
  canonical : Memory.wf t.buffer = true
  position : t.position = if s.position + 1 = s.maxFrameLength then 0 else s.position + 1
  checksum : t.runningChecksum =
    if s.position + 1 = s.maxFrameLength then 0xFFFF
    else if 2 ≤ s.position then crcUpdate s.runningChecksum (s.buffer.read (s.position - 2))
    else s.runningChecksum
  flag : t.escapePending = false
  transmitter : SameTransmitter s t
  surroundings : SameSurroundings s t
  sent : t.sent = s.sent
  delivered : t.delivered = s.delivered

/-- The first listing of R110 on natural numbers, in the spec's own notation: shifts drop no bits, truncation only where
`&&& 0xFF` is written. -/
def crcUpdateNat (crc byte : Nat) : Nat :=
  let t1 := byte ^^^ (crc &&& 0xFF)
  let t2 := (t1 ^^^ (t1 <<< 4)) &&& 0xFF
  ((t2 <<< 8) ||| (crc >>> 8)) ^^^ (t2 >>> 4) ^^^ (t2 <<< 3)

/-- One bit of the bit-serial form (R114 (a)). -/
def crcBit (c : Word16) : Word16 :=
  if c.getLsbD 0 then (c >>> 1) ^^^ 0x8408 else c >>> 1

/-- The bit-serial form of a byte update (R114 (a)): the byte enters the low 8 bits, then eight bit steps. -/
def crcBitSerial (crc : Word16) (byte : Byte) : Word16 :=
  Nat.repeat crcBit 8 (crc ^^^ byte.setWidth 16)

/-- The receive rows of the table: the six classes, `BYTE_RECEIVE`, and its three sub-steps. -/
def isReceiveRow : Instr → Bool
  | .rxFlagAbort | .rxFlagDeliver | .rxFlagDiscard | .rxEsc | .rxDataEscaped _ | .rxData _ | .byteReceive _
  | .frameReset | .store _ | .overflow => true
  | .txFlag | .txLit _ | .txEsc7d | .txEsc7e | .crcUpdate _ _ | .emitEscaped _ | .sendFrame _ _ | .onFrame _ _ _
  | .writeByte _ | .reset | .txStart | .txByte _ | .txEnd => false

/-- The row makes a storage step in this state (R157, R158, R159); no other row writes the buffer (R22). -/
def storesByte (s : State) : Instr → Bool
  | .rxDataEscaped _ | .rxData _ | .store _ => true
  | .byteReceive b => b != 0x7E && (s.escapePending || b != 0x7D)
  | .rxFlagAbort | .rxFlagDeliver | .rxFlagDiscard | .rxEsc | .frameReset | .overflow | .txFlag | .txLit _ | .txEsc7d
  | .txEsc7e | .crcUpdate _ _ | .emitEscaped _ | .sendFrame _ _ | .onFrame _ _ _ | .writeByte _ | .reset | .txStart
  | .txByte _ | .txEnd => false

/-- The calls of R9, the only ones the block accepts (R217): its table without the two events. -/
def isCall : Instr → Bool
  | .crcUpdate _ _ | .emitEscaped _ | .sendFrame _ _ | .byteReceive _ | .reset | .txStart | .txByte _ | .txEnd => true
  | .rxFlagAbort | .rxFlagDeliver | .rxFlagDiscard | .rxEsc | .rxDataEscaped _ | .rxData _ | .txFlag | .txLit _
  | .txEsc7d | .txEsc7e | .onFrame _ _ _ | .writeByte _ | .frameReset | .store _ | .overflow => false

/-- The receive symbol classes. -/
def isReceiveClass : Instr → Bool
  | .rxFlagAbort | .rxFlagDeliver | .rxFlagDiscard | .rxEsc | .rxDataEscaped _ | .rxData _ => true
  | .byteReceive _ | .txFlag | .txLit _ | .txEsc7d | .txEsc7e | .crcUpdate _ _ | .emitEscaped _ | .sendFrame _ _
  | .onFrame _ _ _ | .writeByte _ | .reset | .txStart | .txByte _ | .txEnd | .frameReset | .store _ | .overflow => false

/-- The transmit symbols. -/
def isTransmitSymbol : Instr → Bool
  | .txFlag | .txLit _ | .txEsc7d | .txEsc7e => true
  | .rxFlagAbort | .rxFlagDeliver | .rxFlagDiscard | .rxEsc | .rxDataEscaped _ | .rxData _ | .byteReceive _
  | .crcUpdate _ _ | .emitEscaped _ | .sendFrame _ _ | .onFrame _ _ _ | .writeByte _ | .reset | .txStart | .txByte _
  | .txEnd | .frameReset | .store _ | .overflow => false

/-- The transmit rows of the table: the symbols, the transmit operations and `WRITE_BYTE`. -/
def isTransmitRow : Instr → Bool
  | .txFlag | .txLit _ | .txEsc7d | .txEsc7e | .emitEscaped _ | .sendFrame _ _ | .writeByte _ | .txStart | .txByte _
  | .txEnd => true
  | .rxFlagAbort | .rxFlagDeliver | .rxFlagDiscard | .rxEsc | .rxDataEscaped _ | .rxData _ | .byteReceive _
  | .crcUpdate _ _ | .onFrame _ _ _ | .reset | .frameReset | .store _ | .overflow => false

end Sys2Proof.Machine
end

