-- ==== Sys2Proof/Certificates/Slice0/Obligations.lean ====
section
/-! DEFINITION. The statements for the provers. -/

open Sys2Proof Sys2Proof.Machine

/-! ## The CRC Engine -/

/-- `40_crc_engine.md` section 1: `CRC_UPDATE` answers the value of the section's formula, read on natural numbers with
the spec's own shifts, and changes nothing of the block. Holds for every accumulator and byte. That the answer is
appended to `returned` is the model's choice, log 12. -/
def Obligations.CrcUpdateAnswersFormula : Prop :=
  ∀ (c : Word16) (byte : Byte) (s : State), ∃ v : Word16,
    v.toNat = crcUpdateNat c.toNat byte.toNat ∧
    exec (.crcUpdate c byte) s = .next { s with returned := s.returned ++ [v] }

/-- `40_crc_engine.md` section 2, laws (a) and (b) (the spec's own derivations): the bit-serial form with polynomial
8408, and the table form. -/
def Obligations.CrcUpdateBitSerialAndTable : Prop :=
  ∀ (c : Word16) (byte : Byte),
    crcUpdate c byte = crcBitSerial c byte ∧
    crcUpdate c byte = (c >>> 8) ^^^ crcUpdate 0 (c.setWidth 8 ^^^ byte)

/-- `40_crc_engine.md` section 2, law (c): linearity over GF(2). -/
def Obligations.CrcUpdateLinear : Prop :=
  (∀ (c1 c2 : Word16) (b1 b2 : Byte),
    crcUpdate (c1 ^^^ c2) (b1 ^^^ b2) = crcUpdate c1 b1 ^^^ crcUpdate c2 b2) ∧ crcUpdate 0 0 = 0

/-- `40_crc_engine.md` section 2, laws (d) and (e): a bijection in the accumulator, an injection in the byte. -/
def Obligations.CrcUpdateBijectiveAndInjective : Prop :=
  (∀ (b : Byte) (c1 c2 : Word16), crcUpdate c1 b = crcUpdate c2 b → c1 = c2) ∧
  (∀ (b : Byte) (v : Word16), ∃ c, crcUpdate c b = v) ∧
  (∀ (c : Word16) (b1 b2 : Byte), crcUpdate c b1 = crcUpdate c b2 → b1 = b2)

/-- `40_crc_engine.md` section 2, law (f): content followed by its own checksum, low byte first, folds to zero. -/
def Obligations.ChecksumResidueIsZero : Prop :=
  (∀ c : Word16, crcUpdate (crcUpdate c (lo8 c)) (hi8 c) = 0) ∧
  (∀ bs : List Byte, crc (bs ++ [lo8 (crc bs), hi8 (crc bs)]) = 0)

/-- `40_crc_engine.md` section 2, law (h): contents of equal length that differ in exactly one byte have different
checksums. -/
def Obligations.OneByteChangedChangesChecksum : Prop :=
  ∀ (before after : List Byte) (x y : Byte), x ≠ y → crc (before ++ x :: after) ≠ crc (before ++ y :: after)

/-- `40_crc_engine.md` section 1: the checksum of a byte sequence is the fold of the update from the seed, in
transmission order. -/
def Obligations.ChecksumFoldsFromSeed : Prop :=
  crc [] = 0xFFFF ∧ ∀ (bs : List Byte) (b : Byte), crc (bs ++ [b]) = crcUpdate (crc bs) b

/-! ## Symbols and their bits -/

/-- R86: the six conditions of the table, each with the class it gives, `rx_fcs` written out on natural numbers (R83:
little-endian). Together the conditions cover every byte in every state. -/
def Obligations.ReceiveClassConditions : Prop :=
  ∀ (s : State) (b : Byte),
    (b = 0x7E → s.escapePending = true → s.classOf b = .rxFlagAbort) ∧
    (b = 0x7E → s.escapePending = false → 2 ≤ s.position →
      s.runningChecksum.toNat =
        (s.buffer.read (s.position - 1)).toNat * 256 + (s.buffer.read (s.position - 2)).toNat →
      s.classOf b = .rxFlagDeliver) ∧
    (b = 0x7E → s.escapePending = false →
      (s.position < 2 ∨ s.runningChecksum.toNat ≠
        (s.buffer.read (s.position - 1)).toNat * 256 + (s.buffer.read (s.position - 2)).toNat) →
      s.classOf b = .rxFlagDiscard) ∧
    (b = 0x7D → s.escapePending = false → s.classOf b = .rxEsc) ∧
    (b ≠ 0x7E → s.escapePending = true → s.classOf b = .rxDataEscaped b) ∧
    (b ≠ 0x7E → b ≠ 0x7D → s.escapePending = false → s.classOf b = .rxData b)

/-- `30_encoding.md` section 4: what the receiver decodes from a byte is a well-formed class whose wire byte is that
byte, and every well-formed class is decoded from its wire byte in some state of the receiver. -/
def Obligations.ReceiveSymbolsRoundTrip : Prop :=
  (∀ (s : State) (b : Byte),
    isReceiveClass (s.classOf b) = true ∧ (s.classOf b).wellFormed = true ∧ encode (s.classOf b) = some [b]) ∧
  (∀ i : Instr, isReceiveClass i = true → i.wellFormed = true →
    ∃ (s : State) (b : Byte), encode i = some [b] ∧ s.classOf b = i)

/-- `30_encoding.md` section 3: any sequence of well-formed transmit symbols, with every operand, is read back from its
wire bytes, as a whole and from the front. -/
def Obligations.TransmitStreamDecodesBack : Prop :=
  ∀ (syms : List Instr),
    (∀ i ∈ syms, isTransmitSymbol i = true ∧ i.wellFormed = true) →
    decodeTxAll false (syms.flatMap fun i => (encode i).getD []) = .ok syms ∧
    ∀ (i : Instr) (tail : List Instr), syms = i :: tail → ∀ rest : List Byte,
      decodeTx ((encode i).getD [] ++ rest) = .ok (i, rest)

/-- Words written out from the tables of R85 and R86 (the bit strings of the opcode table). A sanity statement. -/
def Obligations.TableWordsDecode : Prop :=
  decodeTx [0b01111110#8] = .ok (.txFlag, []) ∧
  decodeTx [0b01111101#8, 0b01011101#8] = .ok (.txEsc7d, []) ∧
  decodeTx [0b01111101#8, 0b01011110#8] = .ok (.txEsc7e, []) ∧
  decodeTx [0b01000001#8] = .ok (.txLit 0x41, []) ∧
  decodeTableWord 16 0b0111110101011101 = some .txEsc7d ∧
  decodeRx true false 0b01111110#8 = .rxFlagAbort ∧
  decodeRx false true 0b01111110#8 = .rxFlagDeliver ∧
  decodeRx false false 0b01111110#8 = .rxFlagDiscard ∧
  decodeRx false false 0b01111101#8 = .rxEsc ∧
  decodeRx true false 0b01111101#8 = .rxDataEscaped 0x7D

/-! ## Transmit path -/

/-- R131: `EMIT_ESCAPED`. -/
def Obligations.EmitEscapedAppends : Prop :=
  ∀ (b : Byte) (s : State),
    exec (.emitEscaped b) s =
      .next { s with sent := s.sent ++
        (if b = 0x7D then [0x7D, 0x5D] else if b = 0x7E then [0x7D, 0x5E] else [b]) }

/-- `41_transmit_path.md` section 1: `SEND_FRAME` completes in every state with no streamed frame open, whatever the
length, and emits the bytes of the five steps: marker, escaped content, escaped low and high byte of the checksum of the
content, marker. Nothing else changes. With a streamed frame open it is refused: `StreamingMisuseRefused`, log 13. -/
def Obligations.SendFrameEmitsFiveSteps : Prop :=
  ∀ (t : Byte) (p : List Byte) (s : State), s.txOpen = false →
    exec (.sendFrame t p) s =
      .next { s with sent := s.sent ++ ([0x7E] ++ (t :: p).flatMap escapeBytes ++
        escapeBytes (lo8 (crc (t :: p))) ++ escapeBytes (hi8 (crc (t :: p))) ++ [0x7E]) }

/-- `41_transmit_path.md` section 1 (the spec's derivations): the shape of the wire form. Markers only at the two ends;
every escape marker is followed by 5D or 5E; undoing the escapes gives content and checksum, low byte first; the
length; and the bytes split into the transmit symbols of the unescaped bytes. -/
def Obligations.WireFormShape : Prop :=
  ∀ (t : Byte) (p : List Byte), ∃ body : List Byte,
    wire t p = [0x7E] ++ body ++ [0x7E] ∧
    0x7E ∉ body ∧
    (∀ before after : List Byte, body = before ++ 0x7D :: after →
      ∃ c rest, after = c :: rest ∧ (c = 0x5D ∨ c = 0x5E)) ∧
    unescape false body = t :: p ++ [lo8 (crc (t :: p)), hi8 (crc (t :: p))] ∧
    pendingAfter false body = false ∧
    (wire t p).length =
      p.length + 5 + (t :: p ++ [lo8 (crc (t :: p)), hi8 (crc (t :: p))]).countP isMarker ∧
    decodeTxAll false (wire t p) =
      .ok ([.txFlag] ++ (t :: p ++ [lo8 (crc (t :: p)), hi8 (crc (t :: p))]).map txSymbol ++ [.txFlag])

/-- `30_encoding.md` section 3: each transmit symbol puts its wire bytes on the outgoing stream and changes nothing
else. -/
def Obligations.TransmitSymbolsEmit : Prop :=
  ∀ s : State,
    exec .txFlag s = .next { s with sent := s.sent ++ [0x7E] } ∧
    exec .txEsc7d s = .next { s with sent := s.sent ++ [0x7D, 0x5D] } ∧
    exec .txEsc7e s = .next { s with sent := s.sent ++ [0x7D, 0x5E] } ∧
    ∀ b : Byte, b ≠ 0x7D → b ≠ 0x7E → exec (.txLit b) s = .next { s with sent := s.sent ++ [b] }

/-- The literal symbol of a marker value does not exist (`30_encoding.md` section 3: not 7D, not 7E). That it stops by
name is the model's choice, log 25. -/
def Obligations.LiteralMarkerRefused : Prop :=
  ∀ (b : Byte) (s : State), b = 0x7D ∨ b = 0x7E → exec (.txLit b) s = .refused .litIsMarker

/-- R135: `WRITE_BYTE` appends one byte to the sink's list. -/
def Obligations.WriteByteAppends : Prop :=
  ∀ (b : Byte) (s : State), exec (.writeByte b) s = .next { s with sent := s.sent ++ [b] }

/-- `41_transmit_path.md` section 3 (decision D14): `TX_START` with no frame open. `txTyped` is the model's bit, log 4. -/
def Obligations.TxStartOpensFrame : Prop :=
  ∀ s : State, s.txOpen = false →
    exec .txStart s =
      .next { s with txFcs := 0xFFFF, txOpen := true, txTyped := false, sent := s.sent ++ [0x7E] }

/-- `41_transmit_path.md` section 3 (decision D14): `TX_BYTE` with a frame open. `txTyped` is the model's bit, log 4. -/
def Obligations.TxByteFoldsAndEmits : Prop :=
  ∀ (b : Byte) (s : State), s.txOpen = true →
    exec (.txByte b) s =
      .next { s with txFcs := crcUpdate s.txFcs b, txTyped := true, sent := s.sent ++ escapeBytes b }

/-- `41_transmit_path.md` section 3 (decision D14): `TX_END` with a frame open that has its type byte; the low byte of
`tx_fcs` first. `txTyped` is the model's bit, log 4. -/
def Obligations.TxEndEmitsChecksum : Prop :=
  ∀ s : State, s.txOpen = true → s.txTyped = true →
    exec .txEnd s =
      .next { s with txOpen := false, txTyped := false,
                     sent := s.sent ++ escapeBytes (s.txFcs.setWidth 8) ++
                       escapeBytes ((s.txFcs >>> 8).setWidth 8) ++ [0x7E] }

/-- `41_transmit_path.md` section 3 (decision D14): the misuses it names have no step, and each is refused by name. That
a `SEND_FRAME` while a streamed frame is open is one of them, since two frames never interleave their bytes, is read from
the section's last sentence, log 13. -/
def Obligations.StreamingMisuseRefused : Prop :=
  ∀ s : State,
    (s.txOpen = true → exec .txStart s = .refused .txAlreadyOpen ∧
      ∀ (t : Byte) (p : List Byte), exec (.sendFrame t p) s = .refused .txAlreadyOpen) ∧
    (s.txOpen = false → exec .txEnd s = .refused .txNotOpen ∧
      ∀ b : Byte, exec (.txByte b) s = .refused .txNotOpen) ∧
    (∀ t : State, exec .txStart s = .next t → exec .txEnd t = .refused .txNoTypeByte)

/-- `41_transmit_path.md` section 3 (the spec's derivation): the streamed sequence, run by `step` from a state with no
frame open, emits exactly the wire form of `send_frame` and ends with no frame open. -/
def Obligations.StreamedFrameEqualsSendFrame : Prop :=
  ∀ (t : Byte) (p : List Byte) (s : State), s.txOpen = false →
    steps (p.length + 3) (s.ask ([.txStart, .txByte t] ++ p.map Instr.txByte ++ [.txEnd])) =
      .next { s with sent := s.sent ++ wire t p, txFcs := crc (t :: p), txOpen := false, txTyped := false }

/-! ## Receive path -/

/-- R152: `RX_FLAG_ABORT`, whatever the buffer holds, even when the stored bytes would pass the checksum test. -/
def Obligations.AbortDiscardsFrame : Prop :=
  ∀ s : State, s.escapePending = true →
    exec .rxFlagAbort s = .next { s with escapePending := false, position := 0, runningChecksum := 0xFFFF }

/-- `42_receive_path.md` section 2, row 2 of the table, with the half-open slice (decision D9) and the integer length
(decision D7): `RX_FLAG_DELIVER`. The bound is the last state in which the compared cells exist (log 11). -/
def Obligations.ValidFrameDelivered : Prop :=
  ∀ s : State, s.escapePending = false → 2 ≤ s.position → s.position ≤ s.maxFrameLength + 1 →
    s.runningChecksum.toNat =
      (s.buffer.read (s.position - 1)).toNat * 256 + (s.buffer.read (s.position - 2)).toNat →
    exec .rxFlagDeliver s =
      .next { s with
        delivered := s.delivered ++
          [{ typeByte := s.buffer.read 0
             payload := (List.range (s.position - 3)).map fun k => s.buffer.read (k + 1)
             length := (s.position : Int) - 3 }],
        position := 0, runningChecksum := 0xFFFF }

/-- R154: `RX_FLAG_DISCARD`. The bound is the last state in which the compared cells exist (log 11). -/
def Obligations.InvalidFrameDiscarded : Prop :=
  ∀ s : State, s.escapePending = false → s.position ≤ s.maxFrameLength + 1 →
    (s.position < 2 ∨ s.runningChecksum.toNat ≠
      (s.buffer.read (s.position - 1)).toNat * 256 + (s.buffer.read (s.position - 2)).toNat) →
    exec .rxFlagDiscard s = .next { s with position := 0, runningChecksum := 0xFFFF }

/-- R156: `RX_ESC`. -/
def Obligations.EscapeMarkerSetsFlag : Prop :=
  ∀ s : State, s.escapePending = false → exec .rxEsc s = .next { s with escapePending := true }

/-- `42_receive_path.md` sections 3 and 4 (the store's test is decision D10): `RX_DATA_ESCAPED` clears the flag, stores
the byte XOR 20 at `position` and tests for overflow; nothing else changes. -/
def Obligations.EscapedDataStored : Prop :=
  ∀ (b : Byte) (s : State), s.escapePending = true → b ≠ 0x7E → s.position ≤ s.maxFrameLength →
    Memory.wf s.buffer = true →
    ∃ t, exec (.rxDataEscaped b) s = .next t ∧ StoredAndChecked (b ^^^ 0x20) s t

/-- `42_receive_path.md` sections 3 and 4 (the store's test is decision D10): `RX_DATA` stores the byte as it is at
`position` and tests for overflow; nothing else changes. -/
def Obligations.LiteralDataStored : Prop :=
  ∀ (b : Byte) (s : State), s.escapePending = false → b ≠ 0x7E → b ≠ 0x7D → s.position ≤ s.maxFrameLength →
    Memory.wf s.buffer = true →
    ∃ t, exec (.rxData b) s = .next t ∧ StoredAndChecked b s t

/-- `42_receive_path.md` section 4: `STORE` alone, with the integer comparison of decision D10. The byte folded is the
one stored two steps earlier. -/
def Obligations.StoreAppendsAndFolds : Prop :=
  ∀ (d : Byte) (s : State), s.position ≤ s.maxFrameLength → Memory.wf s.buffer = true →
    ∃ t, exec (.store d) s = .next t ∧
      t.buffer.read s.position = d ∧ SameCellsExcept s.position s t ∧ Memory.wf t.buffer = true ∧
      t.position = s.position + 1 ∧
      t.runningChecksum =
        (if (0 : Int) ≤ (s.position : Int) - 2 then
          crcUpdate s.runningChecksum (s.buffer.read (s.position - 2))
        else s.runningChecksum) ∧
      t.escapePending = s.escapePending ∧ SameTransmitter s t ∧ SameSurroundings s t ∧
      t.sent = s.sent ∧ t.delivered = s.delivered

/-- R160: `OVERFLOW`, the test made by equality; the flag and the buffer are left as they are. -/
def Obligations.OverflowResetsFrame : Prop :=
  ∀ s : State,
    exec .overflow s =
      .next (if s.position = s.maxFrameLength then { s with position := 0, runningChecksum := 0xFFFF } else s)

/-- R151: `FRAME_RESET` writes two elements and nothing else. -/
def Obligations.FrameResetWritesTwo : Prop :=
  ∀ s : State, exec .frameReset s = .next { s with position := 0, runningChecksum := 0xFFFF }

/-- `42_receive_path.md` section 1 and `30_encoding.md` section 4: the sequential pseudocode of `byte_receive` and the
class table are one machine, in every state and for every byte, the stops included. -/
def Obligations.ByteReceiveRunsItsClass : Prop :=
  ∀ (s : State) (b : Byte), exec (.byteReceive b) s = exec (s.classOf b) s

/-- `10_state.md` section 3 and `42_receive_path.md` section 1: `byte_receive` completes for every byte while `position`
is within the document's invariant, and the flag is true afterwards exactly when an escape marker arrived with the flag
false. -/
def Obligations.ByteReceiveCompletesAndSetsFlag : Prop :=
  ∀ (s : State) (b : Byte), s.position ≤ s.maxFrameLength →
    ∃ t, exec (.byteReceive b) s = .next t ∧
      (t.escapePending = true ↔ b = 0x7D ∧ s.escapePending = false)

/-- `42_receive_path.md` section 2 (the spec's derivation): after any boundary marker the receiver is as after reset, the
buffer unchanged. -/
def Obligations.MarkerLeavesCleanReceiver : Prop :=
  ∀ s : State, s.position ≤ s.maxFrameLength + 1 →
    ∃ t, exec (.byteReceive 0x7E) s = .next t ∧ ReceiverClean t ∧ t.buffer = s.buffer

/-- `00_scope.md` section 3 and `20_memory.md` sections 1 and 5: a receive row (the sub-steps `FRAME_RESET`, `STORE` and
`OVERFLOW` among them) leaves the transmitter, the outgoing stream, the parameter, the requests and the answers alone.
A row that makes no storage step leaves the whole buffer as it is (`10_state.md` section 2); one that does writes no cell
but the one at `position`. Only `RX_FLAG_DELIVER` and `BYTE_RECEIVE` of a marker deliver, at most once. The requests and
the answers are the model's records, logs 5 and 12. -/
def Obligations.ReceiveRowsFrame : Prop :=
  ∀ (i : Instr) (s t : State), isReceiveRow i = true → exec i s = .next t →
    SameTransmitter s t ∧ t.sent = s.sent ∧ SameSurroundings s t ∧
    (storesByte s i = false → t.buffer = s.buffer) ∧
    (Memory.wf s.buffer = true → SameCellsExcept s.position s t ∧ Memory.wf t.buffer = true) ∧
    (t.delivered = s.delivered ∨
      (i = .rxFlagDeliver ∨ i = .byteReceive 0x7E) ∧ ∃ d, t.delivered = s.delivered ++ [d])

/-- `00_scope.md` section 3 and `20_memory.md` section 1: a transmit row leaves the whole receiver, every cell of the
buffer included, the deliveries, the parameter, the requests and the answers alone, and only appends to the outgoing
stream. -/
def Obligations.TransmitRowsFrame : Prop :=
  ∀ (i : Instr) (s t : State), isTransmitRow i = true → exec i s = .next t →
    SameReceiver s t ∧ t.delivered = s.delivered ∧ SameSurroundings s t ∧
    ∃ bytes, bytes ≠ [] ∧ t.sent = s.sent ++ bytes

/-- `20_memory.md` section 5: receiver and transmitter operations on one endpoint commute. -/
def Obligations.ReceiveAndTransmitCommute : Prop :=
  ∀ (b : Byte) (i : Instr) (s t u : State), isTransmitRow i = true →
    exec (.byteReceive b) s = .next t → exec i s = .next u →
    ∃ v, exec i t = .next v ∧ exec (.byteReceive b) u = .next v

/-- When a row faults, in both directions: a receive row that would touch a cell the buffer does not have stops with that
cell's index, and no row answers a fault in any other case. That it stops there by name is the model's choice (log 11);
no state within the document's invariant is such a state. -/
def Obligations.MissingCellStops : Prop :=
  (∀ s : State, s.maxFrameLength < s.position →
    (∀ d : Byte, exec (.store d) s = .fault (.bufferBound s.position)) ∧
    (∀ b : Byte, s.escapePending = false → b ≠ 0x7E → b ≠ 0x7D →
      exec (.rxData b) s = .fault (.bufferBound s.position)) ∧
    (∀ b : Byte, s.escapePending = true → b ≠ 0x7E →
      exec (.rxDataEscaped b) s = .fault (.bufferBound s.position)) ∧
    (s.escapePending = false → s.maxFrameLength + 1 < s.position →
      exec (.byteReceive 0x7E) s = .fault (.bufferBound (s.position - 1)))) ∧
  ∀ (i : Instr) (s : State) (r : Fault), exec i s = .fault r →
    isReceiveRow i = true ∧
    (s.maxFrameLength < s.position ∧ r = .bufferBound s.position ∨
      s.maxFrameLength + 1 < s.position ∧ r = .bufferBound (s.position - 1))

/-- A receive class run where its byte is of another class is refused. That it stops by name is the model's choice
(log 7); `step` never gets there, since it decodes the byte in that very state. -/
def Obligations.ClassOutsideConditionRefused : Prop :=
  ∀ (i : Instr) (b : Byte) (s : State), isReceiveClass i = true → encode i = some [b] → s.classOf b ≠ i →
    exec i s = .refused .rxClassCondition

/-- `60_exceptions.md` sections 2 and 4 (the causes' names are decision D16): a step with a cause is silent and leaves a
clean receiver; a step with none delivers once, sets the flag, or advances the position by one. -/
def Obligations.DiscardIsSilentAndClean : Prop :=
  ∀ (s : State) (b : Byte), s.position ≤ s.maxFrameLength →
    (∀ c, s.discardCause b = some c →
      ∃ t, exec (.byteReceive b) s = .next t ∧ ReceiverClean t ∧ t.delivered = s.delivered ∧ t.sent = s.sent) ∧
    (s.discardCause b = none →
      ∃ t, exec (.byteReceive b) s = .next t ∧
        ((∃ d, t.delivered = s.delivered ++ [d]) ∨
          (t.delivered = s.delivered ∧ (t.escapePending = true ∨ t.position = s.position + 1))))

/-! ## Events, reset, construction -/

/-- `43_delivery_and_envelope.md` section 1 (the record is decision D7): `ON_FRAME` hands the record up, once. -/
def Obligations.OnFrameAppendsDelivery : Prop :=
  ∀ (t : Byte) (p : List Byte) (n : Int) (s : State),
    exec (.onFrame t p n) s =
      .next { s with delivered := s.delivered ++ [{ typeByte := t, payload := p, length := n }] }

/-- `70_reset_and_hazards.md` section 1 (decision D6): `RESET`, at any time. Buffer, `tx_fcs` and parameter untouched, no
byte emitted, no delivery. `txTyped` is the model's bit, log 4; that the streams, the requests still to come (log 5) and
the recorded answers (log 12) stay is the model's reading, log 23. -/
def Obligations.ResetOperation : Prop :=
  ∀ s : State,
    exec .reset s =
      .next { s with position := 0, runningChecksum := 0xFFFF, escapePending := false,
                     txOpen := false, txTyped := false }

/-- `10_state.md` section 8 (decision D5) and `70_reset_and_hazards.md` section 2: an endpoint is constructed for every
parameter from 1 up and for no other, with the reset values. Nothing here rests on the values of log 1, 2 and 3. -/
def Obligations.ConstructedState : Prop :=
  State.construct 0 = none ∧
  (∀ n : Nat, 1 ≤ n → ∃ s, State.construct n = some s ∧ ReceiverClean s ∧ s.txOpen = false ∧
    s.maxFrameLength = n ∧ s.inputs = [] ∧ s.sent = [] ∧ s.delivered = []) ∧
  ∃ n, State.construct n = some State.reset

/-- `70_reset_and_hazards.md` section 1 (the spec's derivation): for the receiver, `RESET` has the effect of an abort:
the bytes 7D 7E when the flag is false, the byte 7E when it is true; neither delivers. -/
def Obligations.ResetActsLikeAbort : Prop :=
  ∀ s t : State, exec .reset s = .next t →
    ∃ u, s.receive (if s.escapePending then [0x7E] else [0x7D, 0x7E]) = .next u ∧
      SameReceiver t u ∧ u.delivered = s.delivered ∧ t.delivered = s.delivered ∧ t.sent = s.sent

/-! ## The whole machine -/

/-- A step runs what the front of the requests asks for: a wire byte is decoded in the state of that moment and its class
is run; a call of `00_scope.md` section 4 is run; any other row is no call the block accepts (`60_exceptions.md` section
5) and is refused by name (the refusal is the model's choice, log 8); with no request the state stays as it is (log 5). -/
def Obligations.StepRunsFirstRequest : Prop :=
  ∀ (s : State) (rest : List Request),
    (∀ b : Byte, s.inputs = .wire b :: rest → step s = exec (s.classOf b) { s with inputs := rest }) ∧
    (∀ i : Instr, s.inputs = .call i :: rest →
      (isCall i = true → step s = exec i { s with inputs := rest }) ∧
      (isCall i = false → step s = .refused .notCallable)) ∧
    (s.inputs = [] → step s = .next s)

/-- `43_delivery_and_envelope.md` section 1: only a step that takes the byte 7E, with the flag false and at least two
stored bytes, delivers, and it delivers once. -/
def Obligations.DeliveryOnlyAtMarker : Prop :=
  ∀ s t : State, step s = .next t →
    t.delivered = s.delivered ∨
    ∃ rest d, (s.inputs = .wire 0x7E :: rest ∨ s.inputs = .call (.byteReceive 0x7E) :: rest) ∧
      s.escapePending = false ∧ 2 ≤ s.position ∧ t.delivered = s.delivered ++ [d]

/-- `00_scope.md` section 5 and `20_memory.md` section 3: no step changes the parameter, takes back a sent byte, a
delivery or an answer, or takes more than the first request. That a step, `RESET` included, takes exactly the first
request and leaves the rest rests on the model's choices of logs 5 and 23; the list of answers is log 12. -/
def Obligations.StepKeepsParameterAndHistory : Prop :=
  ∀ s t : State, step s = .next t →
    t.maxFrameLength = s.maxFrameLength ∧ s.sent <+: t.sent ∧ s.delivered <+: t.delivered ∧
    s.returned <+: t.returned ∧ t.inputs = s.inputs.tail

/-- `10_state.md` section 3 and `20_memory.md` section 1: every step keeps the invariant (the bound on `position`, the
two-byte lag of the checksum, the canonical buffer with no cell at or above the parameter, the transmitter's, and the
shape and range of every delivery). -/
def Obligations.StepKeepsInvariant : Prop :=
  ∀ s t : State, Inv s → step s = .next t → Inv t

/-- The invariant holds of every constructed endpoint, the state of log 1 among them. -/
def Obligations.ConstructedStateMeetsInvariant : Prop :=
  (∀ n : Nat, 1 ≤ n → Inv (State.atReset n)) ∧ Inv State.reset

/-- `42_receive_path.md` section 1 and `20_memory.md` section 1: the receiver takes any byte sequence, of any length and
values, without a stop, and within the invariant all along; the transmitter and the outgoing stream are untouched. -/
def Obligations.ReceiverNeverStops : Prop :=
  ∀ (s : State) (bytes : List Byte), Inv s →
    ∃ t, s.receive bytes = .next t ∧ Inv t ∧ t.inputs = s.inputs ∧ t.sent = s.sent ∧ SameTransmitter s t ∧
      t.maxFrameLength = s.maxFrameLength

/-- `42_receive_path.md` sections 3 and 4, `30_encoding.md` sections 2 and 5: from a clean receiver, bytes without a
marker that unescape to fewer than `MAX_FRAME_LENGTH` bytes are accumulated, unescaped, in order, whatever the escaped
values; the checksum lags by two; nothing is delivered. -/
def Obligations.ReceivedBytesAccumulate : Prop :=
  ∀ (s : State) (w : List Byte), ReceiverInv s → ReceiverClean s → 0x7E ∉ w →
    (unescape false w).length < s.maxFrameLength →
    ∃ u, s.receive w = .next u ∧ u.position = (unescape false w).length ∧
      u.buffer.slice 0 u.position = unescape false w ∧
      u.runningChecksum = crc ((unescape false w).take (u.position - 2)) ∧
      u.escapePending = pendingAfter false w ∧ u.delivered = s.delivered

/-- `95_test_vectors.md` property P1 in the form the spec's rules give, and `42_receive_path.md` section 5: what one
endpoint with no streamed frame open sends for a frame that fits, another endpoint with a clean receiver delivers, once
and unchanged, and its receiver is clean again; the opening marker is not needed. -/
def Obligations.SentFrameIsDelivered : Prop :=
  ∀ (a b : State) (t : Byte) (p : List Byte), a.txOpen = false → ReceiverInv b → ReceiverClean b →
    p.length + 4 ≤ b.maxFrameLength →
    ∃ a' w, exec (.sendFrame t p) a = .next a' ∧ a'.sent = a.sent ++ w ∧
      (∃ u, b.receive w = .next u ∧ ReceiverClean u ∧
        u.delivered = b.delivered ++ [{ typeByte := t, payload := p, length := (p.length : Int) }]) ∧
      (∃ u, b.receive w.tail = .next u ∧ ReceiverClean u ∧
        u.delivered = b.delivered ++ [{ typeByte := t, payload := p, length := (p.length : Int) }])

/-- `42_receive_path.md` sections 2 and 5: whatever the receiver holds and whatever bytes came before, a whole frame that
fits is delivered, last, and leaves a clean receiver. -/
def Obligations.AnyStateResynchronises : Prop :=
  ∀ (s : State) (noise : List Byte) (t : Byte) (p : List Byte), ReceiverInv s → p.length + 4 ≤ s.maxFrameLength →
    ∃ u earlier, s.receive (noise ++ wire t p) = .next u ∧ ReceiverClean u ∧
      u.delivered = s.delivered ++ earlier ++ [{ typeByte := t, payload := p, length := (p.length : Int) }]

/-- `60_exceptions.md` section 3 (the spec's restatement of checksum sensitivity): change one wire byte that carries a
content byte, neither value a marker, and the frame is discarded with no delivery. -/
def Obligations.ChangedContentByteDiscarded : Prop :=
  ∀ (s : State) (t : Byte) (p before after : List Byte) (x y : Byte),
    ReceiverInv s → ReceiverClean s → p.length + 4 ≤ s.maxFrameLength →
    wire t p = [0x7E] ++ before ++ [x] ++ after →
    before.length < ((t :: p).flatMap escapeBytes).length →
    x ≠ 0x7D → x ≠ 0x7E → y ≠ 0x7D → y ≠ 0x7E → x ≠ y →
    ∃ u, s.receive ([0x7E] ++ before ++ [y] ++ after) = .next u ∧ ReceiverClean u ∧ u.delivered = s.delivered

/-- `42_receive_path.md` section 5 and `43_delivery_and_envelope.md` section 1: what a step can deliver. Between 2 and
`MAX_FRAME_LENGTH - 1` bytes are stored, so the parameter is at least 3; the record has the shape and the range of its
length; a record with a type byte is the content and has the checksum that was compared. -/
def Obligations.DeliveredFrameFits : Prop :=
  ∀ (s t : State) (d : Delivery), Inv s → step s = .next t → t.delivered = s.delivered ++ [d] →
    2 ≤ s.position ∧ s.position + 1 ≤ s.maxFrameLength ∧ DeliveryOk s.maxFrameLength d ∧
    (0 ≤ d.length → d.typeByte :: d.payload = s.content ∧ crc (d.typeByte :: d.payload) = s.rxFcs) ∧
    (d.length < 0 → d = { typeByte := 0xFF, payload := [], length := -1 })

/-- `42_receive_path.md` section 5: from a clean receiver, exactly `MAX_FRAME_LENGTH` stored bytes are dropped without a
delivery and leave a clean receiver, and what follows is parsed as if it began a frame: a frame's bytes without their
opening marker are delivered. -/
def Obligations.OverflowResidueIsParsed : Prop :=
  ∀ (s : State) (w : List Byte) (t : Byte) (p : List Byte), ReceiverInv s → ReceiverClean s → 0x7E ∉ w →
    (unescape false w).length = s.maxFrameLength → pendingAfter false w = false →
    (∃ u, s.receive w = .next u ∧ ReceiverClean u ∧ u.delivered = s.delivered) ∧
    (p.length + 4 ≤ s.maxFrameLength →
      ∃ u, s.receive (w ++ (wire t p).tail) = .next u ∧ ReceiverClean u ∧
        u.delivered = s.delivered ++ [{ typeByte := t, payload := p, length := (p.length : Int) }])

/-- `43_delivery_and_envelope.md` section 1 (decisions D7 and D26): two stored bytes FF and a marker are delivered as the
degenerate frame, with length -1, which on a port of any width is all ones. -/
def Obligations.DegenerateFrameDelivered : Prop :=
  ∀ s : State, ReceiverInv s → ReceiverClean s → 3 ≤ s.maxFrameLength →
    ∃ u d, s.receive [0xFF, 0xFF, 0x7E] = .next u ∧ ReceiverClean u ∧ u.delivered = s.delivered ++ [d] ∧
      d.typeByte = 0xFF ∧ d.payload = [] ∧ d.length = -1 ∧ ∀ w : Nat, d.lengthOnPort w = BitVec.allOnes w

/-! ## How the transmit rows make up the operations -/

/-- `41_transmit_path.md` sections 1 and 2, `30_encoding.md` section 3, `20_memory.md` section 5: the transmit operations
are their symbols, and every symbol is sink writes of its wire bytes, in order. `EMIT_ESCAPED` is one symbol; `SEND_FRAME`
is a marker, the symbol of every content and checksum byte, a marker; so its k-th `WRITE_BYTE` carries the k-th byte. -/
def Obligations.TransmitOperationsAreSinkWrites : Prop :=
  (∀ (i : Instr) (s : State), isTransmitSymbol i = true → i.wellFormed = true →
    ∃ bytes, encode i = some bytes ∧ exec i s = runRows (bytes.map .writeByte) s) ∧
  (∀ (b : Byte) (s : State), exec (.emitEscaped b) s = exec (txSymbol b) s) ∧
  ∀ (t : Byte) (p : List Byte) (s : State), s.txOpen = false →
    exec (.sendFrame t p) s =
      runRows ([.txFlag] ++ (t :: p ++ [lo8 (crc (t :: p)), hi8 (crc (t :: p))]).map txSymbol ++ [.txFlag]) s ∧
    exec (.sendFrame t p) s = runRows ((wire t p).map .writeByte) s

/-- `41_transmit_path.md` section 3 and `20_memory.md` section 5: frames never interleave their bytes, atomic or streamed.
Over any requests that are all taken, wire bytes between them included, what is sent is a sequence of whole wire forms,
followed, while a streamed frame is open, by that frame's opening marker and escaped content, with `tx_fcs` its checksum.
Left out by name: `RESET`, which truncates an open frame (`70_reset_and_hazards.md` section 1), and a bare `EMIT_ESCAPED`,
which is no frame. That a `SEND_FRAME` inside a streamed frame stops is log 13. -/
def Obligations.FramesNeverInterleave : Prop :=
  ∀ (s u : State) (reqs rest : List Request), s.inputs = reqs ++ rest → s.txOpen = false →
    (∀ r ∈ reqs, r ≠ .call .reset ∧ ∀ b : Byte, r ≠ .call (.emitEscaped b)) →
    steps reqs.length s = .next u →
    ∃ (frames : List (Byte × List Byte)) (unfinished : List Byte),
      u.sent = s.sent ++ frames.flatMap (fun f => wire f.1 f.2) ++ unfinished ∧
      (u.txOpen = false → unfinished = []) ∧
      (u.txOpen = true →
        ∃ content : List Byte, unfinished = 0x7E :: content.flatMap escapeBytes ∧ u.txFcs = crc content)
end

