-- ==== Sys2Proof/Laws/Crc.lean ====
section
/-! SUPPORT. The fold of the checksum (R112). -/

namespace Sys2Proof.Machine

@[simp] theorem crc_nil : crc [] = Config.crcSeed := rfl

theorem crc_append (xs ys : List Byte) : crc (xs ++ ys) = ys.foldl crcUpdate (crc xs) := by
  simp [crc]

theorem crc_concat (xs : List Byte) (b : Byte) : crc (xs ++ [b]) = crcUpdate (crc xs) b := by
  simp [crc]

end Sys2Proof.Machine
end

