-- ==== Sys2Proof/Laws/Memory.lean ====
section
/-! SUPPORT. The buffer's laws: a read after a write, and the canonical form that every write keeps. -/

namespace Sys2Proof.Machine

@[simp] theorem Memory.read_nil (i : Nat) : Memory.read [] i = Memory.unlisted := rfl

theorem Memory.read_cons (c : Host.Cell) (m : Memory) (i : Nat) :
    Memory.read (c :: m) i = if c.1 = i then c.2 else Memory.read m i := rfl

theorem Memory.wf_cons (c : Host.Cell) (m : Memory) :
    Memory.wf (c :: m) = true ↔
      c.2 ≠ Memory.unlisted ∧ (∀ d ∈ m, c.1 < d.1) ∧ Memory.wf m = true := by
  simp [Memory.wf, and_assoc]

/-- A cell below every listed one reads as unlisted. -/
theorem Memory.read_below (m : Memory) (i : Nat) (h : ∀ d ∈ m, i < d.1) :
    Memory.read m i = Memory.unlisted := by
  induction m with
  | nil => rfl
  | cons c m ih =>
    have hc : i < c.1 := h c List.mem_cons_self
    rw [Memory.read_cons, if_neg (by omega)]
    exact ih fun d hd => h d (List.mem_cons_of_mem c hd)

theorem Memory.read_put (i j : Nat) (v : Byte) (m : Memory) (h : ∀ d ∈ m, i < d.1) :
    Memory.read (Memory.put i v m) j = if j = i then v else Memory.read m j := by
  unfold Memory.put
  by_cases hv : v = Memory.unlisted
  · by_cases hj : j = i
    · subst hj; simp [hv, Memory.read_below m j h]
    · simp [hv, hj]
  · by_cases hj : j = i
    · simp [hv, hj, Memory.read_cons]
    · simp [hv, hj, Memory.read_cons, Ne.symm hj]

/-- Reading after a write: the written cell reads the byte, every other cell reads as before. -/
theorem Memory.read_write (m : Memory) (i j : Nat) (v : Byte) (h : Memory.wf m = true) :
    Memory.read (Memory.write m i v) j = if j = i then v else Memory.read m j := by
  induction m with
  | nil => simpa [Memory.write] using Memory.read_put i j v [] (by simp)
  | cons c m ih =>
    obtain ⟨-, hlt, hm⟩ := (Memory.wf_cons c m).1 h
    unfold Memory.write
    by_cases h1 : i < c.1
    · rw [if_pos h1, Memory.read_put]
      intro d hd
      rcases List.mem_cons.1 hd with rfl | hd
      · exact h1
      · exact lt_trans h1 (hlt d hd)
    · by_cases h2 : i = c.1
      · rw [if_neg h1, if_pos h2, Memory.read_put i j v m (h2 ▸ hlt), Memory.read_cons]
        by_cases hj : j = i
        · simp [hj]
        · simp [hj, h2 ▸ Ne.symm hj]
      · rw [if_neg h1, if_neg h2, Memory.read_cons, ih hm, Memory.read_cons]
        by_cases hj : c.1 = j
        · simp [hj, show j ≠ i by omega]
        · simp [hj]

theorem Memory.read_write_same (m : Memory) (i : Nat) (v : Byte) (h : Memory.wf m = true) :
    Memory.read (Memory.write m i v) i = v := by
  simp [Memory.read_write m i i v h]

theorem Memory.read_write_other (m : Memory) (i j : Nat) (v : Byte) (h : Memory.wf m = true) (hj : j ≠ i) :
    Memory.read (Memory.write m i v) j = Memory.read m j := by
  simp [Memory.read_write m i j v h, hj]

theorem Memory.mem_put {i : Nat} {v : Byte} {m : Memory} {d : Host.Cell} (h : d ∈ Memory.put i v m) :
    d = (i, v) ∨ d ∈ m := by
  unfold Memory.put at h
  split at h
  · exact .inr h
  · simpa using h

theorem Memory.wf_put (i : Nat) (v : Byte) (m : Memory) (hm : Memory.wf m = true) (h : ∀ d ∈ m, i < d.1) :
    Memory.wf (Memory.put i v m) = true := by
  unfold Memory.put
  split
  · exact hm
  · exact (Memory.wf_cons _ _).2 ⟨‹_›, h, hm⟩

/-- A write lists no cell but the written one and those listed before. -/
theorem Memory.mem_write (m : Memory) (i : Nat) (v : Byte) (d : Host.Cell) (h : d ∈ Memory.write m i v) :
    d = (i, v) ∨ d ∈ m := by
  induction m with
  | nil => exact Memory.mem_put h
  | cons c m ih =>
    unfold Memory.write at h
    split at h
    · exact Memory.mem_put h
    · split at h
      · exact (Memory.mem_put h).imp_right (List.mem_cons_of_mem c)
      · rcases List.mem_cons.1 h with rfl | h
        · exact .inr List.mem_cons_self
        · exact (ih h).imp_right (List.mem_cons_of_mem c)

/-- A write keeps the canonical form. -/
theorem Memory.wf_write (m : Memory) (i : Nat) (v : Byte) (h : Memory.wf m = true) :
    Memory.wf (Memory.write m i v) = true := by
  induction m with
  | nil => exact Memory.wf_put i v [] rfl (by simp)
  | cons c m ih =>
    obtain ⟨hc, hlt, hm⟩ := (Memory.wf_cons c m).1 h
    unfold Memory.write
    split
    · rename_i h1
      refine Memory.wf_put i v _ h fun d hd => ?_
      rcases List.mem_cons.1 hd with rfl | hd
      · exact h1
      · exact lt_trans h1 (hlt d hd)
    · split
      · rename_i h2
        exact Memory.wf_put i v m hm (h2 ▸ hlt)
      · refine (Memory.wf_cons _ _).2 ⟨hc, fun d hd => ?_, ih hm⟩
        rcases Memory.mem_write m i v d hd with rfl | hd
        · show c.1 < i
          omega
        · exact hlt d hd

/-- Writing what an unlisted cell reads as to a cell of the empty buffer lists nothing. -/
theorem Memory.write_unlisted_nil (i : Nat) : Memory.write [] i Memory.unlisted = [] := by
  simp [Memory.write, Memory.put]

@[simp] theorem Memory.slice_empty (m : Memory) (lo : Nat) : m.slice lo lo = [] := by
  simp [Memory.slice]

theorem Memory.slice_length (m : Memory) (lo hi : Nat) : (m.slice lo hi).length = hi - lo := by
  simp [Memory.slice]

/-- A slice grows by its last cell. -/
theorem Memory.slice_succ (m : Memory) (hi : Nat) : m.slice 0 (hi + 1) = m.slice 0 hi ++ [m.read hi] := by
  simp [Memory.slice, List.range'_concat]

/-- A slice does not see a write at or above its end. -/
theorem Memory.slice_write (m : Memory) (hi i : Nat) (v : Byte) (h : Memory.wf m = true) (hi' : hi ≤ i) :
    (m.write i v).slice 0 hi = m.slice 0 hi := by
  unfold Memory.slice
  refine List.map_congr_left fun j hj => ?_
  exact Memory.read_write_other m i j v h (by simp at hj; omega)

theorem reset_buffer_wf : Memory.wf State.reset.buffer = true := rfl

end Sys2Proof.Machine
end

