-- ==== Sys2Proof/Laws/Operands.lean ====
section
/-! SUPPORT. Markers, checksum assembly and the validity test, once each. -/

namespace Sys2Proof.Machine

theorem isMarker_iff (b : Byte) : isMarker b = true ↔ b = Config.flag ∨ b = Config.esc := by
  simp [isMarker]

theorem isMarker_false_iff (b : Byte) : isMarker b = false ↔ b ≠ Config.flag ∧ b ≠ Config.esc := by
  simp [isMarker]

theorem escapeBytes_of_not_marker (b : Byte) (hf : b ≠ Config.flag) (he : b ≠ Config.esc) :
    escapeBytes b = [b] := by
  simp [escapeBytes, (isMarker_false_iff b).2 ⟨hf, he⟩]

@[simp] theorem escapeBytes_flag : escapeBytes Config.flag = [0x7D, 0x5E] := by decide

@[simp] theorem escapeBytes_esc : escapeBytes Config.esc = [0x7D, 0x5D] := by decide

@[simp] theorem xorEscape_xorEscape (b : Byte) : xorEscape (xorEscape b) = b := by
  simp [xorEscape]

/-- Little-endian assembly on natural numbers (R83). -/
theorem joinBytes_toNat (hi lo : Byte) : (joinBytes hi lo).toNat = hi.toNat * 256 + lo.toNat := by
  have h1 := hi.isLt
  have h2 := lo.isLt
  have hand : lo.toNat &&& 255 = lo.toNat := by
    rw [show (255 : Nat) = 2 ^ 8 - 1 from rfl, Nat.and_two_pow_sub_one_eq_mod]
    omega
  have hor : hi.toNat * 256 ||| lo.toNat = hi.toNat * 256 + lo.toNat := by
    have := (Nat.shiftLeft_add_eq_or_of_lt lo.isLt hi.toNat).symm
    rwa [Nat.shiftLeft_eq] at this
  simp [joinBytes, BitVec.toNat_shiftLeft, Nat.mod_eq_of_lt (show hi.toNat < 65536 by omega),
    Nat.mod_eq_of_lt (show lo.toNat < 65536 by omega), hand, Nat.shiftLeft_eq,
    Nat.mod_eq_of_lt (show hi.toNat * 256 < 65536 by omega), hor]

@[simp] theorem joinBytes_lo8_hi8 (v : Word16) : joinBytes (hi8 v) (lo8 v) = v := by
  have := v.isLt
  apply BitVec.eq_of_toNat_eq
  rw [joinBytes_toNat]
  simp [hi8, lo8, Nat.shiftRight_eq_div_pow]
  omega

/-- The validity test on natural numbers (R153). -/
theorem frameMatches_iff (s : State) :
    s.frameMatches = true ↔
      2 ≤ s.position ∧
        s.runningChecksum.toNat =
          (s.buffer.read (s.position - 1)).toNat * 256 + (s.buffer.read (s.position - 2)).toNat := by
  rw [← joinBytes_toNat]
  simp [State.frameMatches, State.rxFcs, BitVec.toNat_eq]

theorem comparesOutside_iff (s : State) :
    s.comparesOutside = true ↔ s.maxFrameLength + 1 < s.position ∧ 2 ≤ s.position := by
  simp [State.comparesOutside, State.hasCell]
  omega

end Sys2Proof.Machine
end

