-- ==== Sys2Proof/Laws/State.lean ====
section
/-! SUPPORT. One lemma per field per update of State, so that no later proof unfolds a record update. -/

namespace Sys2Proof.Machine

/-! `emit` -/

@[simp] theorem emit_buffer (b : Byte) (s : State) : (emit b s).buffer = s.buffer := rfl
@[simp] theorem emit_position (b : Byte) (s : State) : (emit b s).position = s.position := rfl
@[simp] theorem emit_runningChecksum (b : Byte) (s : State) : (emit b s).runningChecksum = s.runningChecksum := rfl
@[simp] theorem emit_escapePending (b : Byte) (s : State) : (emit b s).escapePending = s.escapePending := rfl
@[simp] theorem emit_txFcs (b : Byte) (s : State) : (emit b s).txFcs = s.txFcs := rfl
@[simp] theorem emit_txOpen (b : Byte) (s : State) : (emit b s).txOpen = s.txOpen := rfl
@[simp] theorem emit_txTyped (b : Byte) (s : State) : (emit b s).txTyped = s.txTyped := rfl
@[simp] theorem emit_maxFrameLength (b : Byte) (s : State) : (emit b s).maxFrameLength = s.maxFrameLength := rfl
@[simp] theorem emit_inputs (b : Byte) (s : State) : (emit b s).inputs = s.inputs := rfl
@[simp] theorem emit_sent (b : Byte) (s : State) : (emit b s).sent = s.sent ++ [b] := rfl
@[simp] theorem emit_delivered (b : Byte) (s : State) : (emit b s).delivered = s.delivered := rfl
@[simp] theorem emit_returned (b : Byte) (s : State) : (emit b s).returned = s.returned := rfl

/-! `deliver` -/

@[simp] theorem deliver_buffer (d : Delivery) (s : State) : (deliver d s).buffer = s.buffer := rfl
@[simp] theorem deliver_position (d : Delivery) (s : State) : (deliver d s).position = s.position := rfl
@[simp] theorem deliver_runningChecksum (d : Delivery) (s : State) : (deliver d s).runningChecksum = s.runningChecksum := rfl
@[simp] theorem deliver_escapePending (d : Delivery) (s : State) : (deliver d s).escapePending = s.escapePending := rfl
@[simp] theorem deliver_txFcs (d : Delivery) (s : State) : (deliver d s).txFcs = s.txFcs := rfl
@[simp] theorem deliver_txOpen (d : Delivery) (s : State) : (deliver d s).txOpen = s.txOpen := rfl
@[simp] theorem deliver_txTyped (d : Delivery) (s : State) : (deliver d s).txTyped = s.txTyped := rfl
@[simp] theorem deliver_maxFrameLength (d : Delivery) (s : State) : (deliver d s).maxFrameLength = s.maxFrameLength := rfl
@[simp] theorem deliver_inputs (d : Delivery) (s : State) : (deliver d s).inputs = s.inputs := rfl
@[simp] theorem deliver_sent (d : Delivery) (s : State) : (deliver d s).sent = s.sent := rfl
@[simp] theorem deliver_delivered (d : Delivery) (s : State) : (deliver d s).delivered = s.delivered ++ [d] := rfl
@[simp] theorem deliver_returned (d : Delivery) (s : State) : (deliver d s).returned = s.returned := rfl

/-! `answer` -/

@[simp] theorem answer_buffer (w : Word16) (s : State) : (answer w s).buffer = s.buffer := rfl
@[simp] theorem answer_position (w : Word16) (s : State) : (answer w s).position = s.position := rfl
@[simp] theorem answer_runningChecksum (w : Word16) (s : State) : (answer w s).runningChecksum = s.runningChecksum := rfl
@[simp] theorem answer_escapePending (w : Word16) (s : State) : (answer w s).escapePending = s.escapePending := rfl
@[simp] theorem answer_txFcs (w : Word16) (s : State) : (answer w s).txFcs = s.txFcs := rfl
@[simp] theorem answer_txOpen (w : Word16) (s : State) : (answer w s).txOpen = s.txOpen := rfl
@[simp] theorem answer_txTyped (w : Word16) (s : State) : (answer w s).txTyped = s.txTyped := rfl
@[simp] theorem answer_maxFrameLength (w : Word16) (s : State) : (answer w s).maxFrameLength = s.maxFrameLength := rfl
@[simp] theorem answer_inputs (w : Word16) (s : State) : (answer w s).inputs = s.inputs := rfl
@[simp] theorem answer_sent (w : Word16) (s : State) : (answer w s).sent = s.sent := rfl
@[simp] theorem answer_delivered (w : Word16) (s : State) : (answer w s).delivered = s.delivered := rfl
@[simp] theorem answer_returned (w : Word16) (s : State) : (answer w s).returned = s.returned ++ [w] := rfl

/-! `frameReset` -/

@[simp] theorem frameReset_buffer (s : State) : (frameReset s).buffer = s.buffer := rfl
@[simp] theorem frameReset_position (s : State) : (frameReset s).position = 0 := rfl
@[simp] theorem frameReset_runningChecksum (s : State) : (frameReset s).runningChecksum = Config.crcSeed := rfl
@[simp] theorem frameReset_escapePending (s : State) : (frameReset s).escapePending = s.escapePending := rfl
@[simp] theorem frameReset_txFcs (s : State) : (frameReset s).txFcs = s.txFcs := rfl
@[simp] theorem frameReset_txOpen (s : State) : (frameReset s).txOpen = s.txOpen := rfl
@[simp] theorem frameReset_txTyped (s : State) : (frameReset s).txTyped = s.txTyped := rfl
@[simp] theorem frameReset_maxFrameLength (s : State) : (frameReset s).maxFrameLength = s.maxFrameLength := rfl
@[simp] theorem frameReset_inputs (s : State) : (frameReset s).inputs = s.inputs := rfl
@[simp] theorem frameReset_sent (s : State) : (frameReset s).sent = s.sent := rfl
@[simp] theorem frameReset_delivered (s : State) : (frameReset s).delivered = s.delivered := rfl
@[simp] theorem frameReset_returned (s : State) : (frameReset s).returned = s.returned := rfl

/-! `openFrame` -/

@[simp] theorem openFrame_buffer (s : State) : (openFrame s).buffer = s.buffer := rfl
@[simp] theorem openFrame_position (s : State) : (openFrame s).position = s.position := rfl
@[simp] theorem openFrame_runningChecksum (s : State) : (openFrame s).runningChecksum = s.runningChecksum := rfl
@[simp] theorem openFrame_escapePending (s : State) : (openFrame s).escapePending = s.escapePending := rfl
@[simp] theorem openFrame_txFcs (s : State) : (openFrame s).txFcs = Config.crcSeed := rfl
@[simp] theorem openFrame_txOpen (s : State) : (openFrame s).txOpen = true := rfl
@[simp] theorem openFrame_txTyped (s : State) : (openFrame s).txTyped = false := rfl
@[simp] theorem openFrame_maxFrameLength (s : State) : (openFrame s).maxFrameLength = s.maxFrameLength := rfl
@[simp] theorem openFrame_inputs (s : State) : (openFrame s).inputs = s.inputs := rfl
@[simp] theorem openFrame_sent (s : State) : (openFrame s).sent = s.sent := rfl
@[simp] theorem openFrame_delivered (s : State) : (openFrame s).delivered = s.delivered := rfl
@[simp] theorem openFrame_returned (s : State) : (openFrame s).returned = s.returned := rfl

/-! `foldTx` -/

@[simp] theorem foldTx_buffer (b : Byte) (s : State) : (foldTx b s).buffer = s.buffer := rfl
@[simp] theorem foldTx_position (b : Byte) (s : State) : (foldTx b s).position = s.position := rfl
@[simp] theorem foldTx_runningChecksum (b : Byte) (s : State) : (foldTx b s).runningChecksum = s.runningChecksum := rfl
@[simp] theorem foldTx_escapePending (b : Byte) (s : State) : (foldTx b s).escapePending = s.escapePending := rfl
@[simp] theorem foldTx_txFcs (b : Byte) (s : State) : (foldTx b s).txFcs = crcUpdate s.txFcs b := rfl
@[simp] theorem foldTx_txOpen (b : Byte) (s : State) : (foldTx b s).txOpen = s.txOpen := rfl
@[simp] theorem foldTx_txTyped (b : Byte) (s : State) : (foldTx b s).txTyped = true := rfl
@[simp] theorem foldTx_maxFrameLength (b : Byte) (s : State) : (foldTx b s).maxFrameLength = s.maxFrameLength := rfl
@[simp] theorem foldTx_inputs (b : Byte) (s : State) : (foldTx b s).inputs = s.inputs := rfl
@[simp] theorem foldTx_sent (b : Byte) (s : State) : (foldTx b s).sent = s.sent := rfl
@[simp] theorem foldTx_delivered (b : Byte) (s : State) : (foldTx b s).delivered = s.delivered := rfl
@[simp] theorem foldTx_returned (b : Byte) (s : State) : (foldTx b s).returned = s.returned := rfl

/-! `closeFrame` -/

@[simp] theorem closeFrame_buffer (s : State) : (closeFrame s).buffer = s.buffer := rfl
@[simp] theorem closeFrame_position (s : State) : (closeFrame s).position = s.position := rfl
@[simp] theorem closeFrame_runningChecksum (s : State) : (closeFrame s).runningChecksum = s.runningChecksum := rfl
@[simp] theorem closeFrame_escapePending (s : State) : (closeFrame s).escapePending = s.escapePending := rfl
@[simp] theorem closeFrame_txFcs (s : State) : (closeFrame s).txFcs = s.txFcs := rfl
@[simp] theorem closeFrame_txOpen (s : State) : (closeFrame s).txOpen = false := rfl
@[simp] theorem closeFrame_txTyped (s : State) : (closeFrame s).txTyped = false := rfl
@[simp] theorem closeFrame_maxFrameLength (s : State) : (closeFrame s).maxFrameLength = s.maxFrameLength := rfl
@[simp] theorem closeFrame_inputs (s : State) : (closeFrame s).inputs = s.inputs := rfl
@[simp] theorem closeFrame_sent (s : State) : (closeFrame s).sent = s.sent := rfl
@[simp] theorem closeFrame_delivered (s : State) : (closeFrame s).delivered = s.delivered := rfl
@[simp] theorem closeFrame_returned (s : State) : (closeFrame s).returned = s.returned := rfl

/-! `setEscape` -/

@[simp] theorem setEscape_buffer (s : State) : (setEscape s).buffer = s.buffer := rfl
@[simp] theorem setEscape_position (s : State) : (setEscape s).position = s.position := rfl
@[simp] theorem setEscape_runningChecksum (s : State) : (setEscape s).runningChecksum = s.runningChecksum := rfl
@[simp] theorem setEscape_escapePending (s : State) : (setEscape s).escapePending = true := rfl
@[simp] theorem setEscape_txFcs (s : State) : (setEscape s).txFcs = s.txFcs := rfl
@[simp] theorem setEscape_txOpen (s : State) : (setEscape s).txOpen = s.txOpen := rfl
@[simp] theorem setEscape_txTyped (s : State) : (setEscape s).txTyped = s.txTyped := rfl
@[simp] theorem setEscape_maxFrameLength (s : State) : (setEscape s).maxFrameLength = s.maxFrameLength := rfl
@[simp] theorem setEscape_inputs (s : State) : (setEscape s).inputs = s.inputs := rfl
@[simp] theorem setEscape_sent (s : State) : (setEscape s).sent = s.sent := rfl
@[simp] theorem setEscape_delivered (s : State) : (setEscape s).delivered = s.delivered := rfl
@[simp] theorem setEscape_returned (s : State) : (setEscape s).returned = s.returned := rfl

/-! `clearEscape` -/

@[simp] theorem clearEscape_buffer (s : State) : (clearEscape s).buffer = s.buffer := rfl
@[simp] theorem clearEscape_position (s : State) : (clearEscape s).position = s.position := rfl
@[simp] theorem clearEscape_runningChecksum (s : State) : (clearEscape s).runningChecksum = s.runningChecksum := rfl
@[simp] theorem clearEscape_escapePending (s : State) : (clearEscape s).escapePending = false := rfl
@[simp] theorem clearEscape_txFcs (s : State) : (clearEscape s).txFcs = s.txFcs := rfl
@[simp] theorem clearEscape_txOpen (s : State) : (clearEscape s).txOpen = s.txOpen := rfl
@[simp] theorem clearEscape_txTyped (s : State) : (clearEscape s).txTyped = s.txTyped := rfl
@[simp] theorem clearEscape_maxFrameLength (s : State) : (clearEscape s).maxFrameLength = s.maxFrameLength := rfl
@[simp] theorem clearEscape_inputs (s : State) : (clearEscape s).inputs = s.inputs := rfl
@[simp] theorem clearEscape_sent (s : State) : (clearEscape s).sent = s.sent := rfl
@[simp] theorem clearEscape_delivered (s : State) : (clearEscape s).delivered = s.delivered := rfl
@[simp] theorem clearEscape_returned (s : State) : (clearEscape s).returned = s.returned := rfl

/-! `storeByte` -/

@[simp] theorem storeByte_buffer (d : Byte) (s : State) : (storeByte d s).buffer = s.buffer.write s.position d := rfl
@[simp] theorem storeByte_position (d : Byte) (s : State) : (storeByte d s).position = s.position + 1 := rfl
@[simp] theorem storeByte_escapePending (d : Byte) (s : State) : (storeByte d s).escapePending = s.escapePending := rfl
@[simp] theorem storeByte_txFcs (d : Byte) (s : State) : (storeByte d s).txFcs = s.txFcs := rfl
@[simp] theorem storeByte_txOpen (d : Byte) (s : State) : (storeByte d s).txOpen = s.txOpen := rfl
@[simp] theorem storeByte_txTyped (d : Byte) (s : State) : (storeByte d s).txTyped = s.txTyped := rfl
@[simp] theorem storeByte_maxFrameLength (d : Byte) (s : State) : (storeByte d s).maxFrameLength = s.maxFrameLength := rfl
@[simp] theorem storeByte_inputs (d : Byte) (s : State) : (storeByte d s).inputs = s.inputs := rfl
@[simp] theorem storeByte_sent (d : Byte) (s : State) : (storeByte d s).sent = s.sent := rfl
@[simp] theorem storeByte_delivered (d : Byte) (s : State) : (storeByte d s).delivered = s.delivered := rfl
@[simp] theorem storeByte_returned (d : Byte) (s : State) : (storeByte d s).returned = s.returned := rfl

theorem storeByte_runningChecksum (d : Byte) (s : State) :
    (storeByte d s).runningChecksum =
      if 2 ≤ s.position then crcUpdate s.runningChecksum ((s.buffer.write s.position d).read (s.position - 2))
      else s.runningChecksum := rfl

/-! `discardFrame`: what every cause leaves -/

@[simp] theorem discardFrame_buffer (c : DiscardCause) (s : State) : (discardFrame c s).buffer = s.buffer := by cases c <;> rfl
@[simp] theorem discardFrame_position (c : DiscardCause) (s : State) : (discardFrame c s).position = 0 := by cases c <;> rfl
@[simp] theorem discardFrame_runningChecksum (c : DiscardCause) (s : State) : (discardFrame c s).runningChecksum = Config.crcSeed := by cases c <;> rfl
@[simp] theorem discardFrame_txFcs (c : DiscardCause) (s : State) : (discardFrame c s).txFcs = s.txFcs := by cases c <;> rfl
@[simp] theorem discardFrame_txOpen (c : DiscardCause) (s : State) : (discardFrame c s).txOpen = s.txOpen := by cases c <;> rfl
@[simp] theorem discardFrame_txTyped (c : DiscardCause) (s : State) : (discardFrame c s).txTyped = s.txTyped := by cases c <;> rfl
@[simp] theorem discardFrame_maxFrameLength (c : DiscardCause) (s : State) : (discardFrame c s).maxFrameLength = s.maxFrameLength := by cases c <;> rfl
@[simp] theorem discardFrame_inputs (c : DiscardCause) (s : State) : (discardFrame c s).inputs = s.inputs := by cases c <;> rfl
@[simp] theorem discardFrame_sent (c : DiscardCause) (s : State) : (discardFrame c s).sent = s.sent := by cases c <;> rfl
@[simp] theorem discardFrame_delivered (c : DiscardCause) (s : State) : (discardFrame c s).delivered = s.delivered := by cases c <;> rfl
@[simp] theorem discardFrame_returned (c : DiscardCause) (s : State) : (discardFrame c s).returned = s.returned := by cases c <;> rfl

theorem discardFrame_escapePending (c : DiscardCause) (s : State) :
    (discardFrame c s).escapePending = if c = .escapeBeforeBoundary then false else s.escapePending := by
  cases c <;> rfl

/-- Every cause but `EscapeBeforeBoundary` is `frame_reset` (R216). -/
theorem discardFrame_eq_frameReset (c : DiscardCause) (s : State) (h : c ≠ .escapeBeforeBoundary) :
    discardFrame c s = frameReset s := by
  cases c <;> first | rfl | exact absurd rfl h

/-! `overflowCheck`: what it leaves alone -/

@[simp] theorem overflowCheck_buffer (s : State) : (overflowCheck s).buffer = s.buffer := by
  unfold overflowCheck; split <;> rfl
@[simp] theorem overflowCheck_escapePending (s : State) : (overflowCheck s).escapePending = s.escapePending := by
  unfold overflowCheck; split <;> rfl
@[simp] theorem overflowCheck_txFcs (s : State) : (overflowCheck s).txFcs = s.txFcs := by
  unfold overflowCheck; split <;> rfl
@[simp] theorem overflowCheck_txOpen (s : State) : (overflowCheck s).txOpen = s.txOpen := by
  unfold overflowCheck; split <;> rfl
@[simp] theorem overflowCheck_txTyped (s : State) : (overflowCheck s).txTyped = s.txTyped := by
  unfold overflowCheck; split <;> rfl
@[simp] theorem overflowCheck_maxFrameLength (s : State) : (overflowCheck s).maxFrameLength = s.maxFrameLength := by
  unfold overflowCheck; split <;> rfl
@[simp] theorem overflowCheck_inputs (s : State) : (overflowCheck s).inputs = s.inputs := by
  unfold overflowCheck; split <;> rfl
@[simp] theorem overflowCheck_sent (s : State) : (overflowCheck s).sent = s.sent := by
  unfold overflowCheck; split <;> rfl
@[simp] theorem overflowCheck_delivered (s : State) : (overflowCheck s).delivered = s.delivered := by
  unfold overflowCheck; split <;> rfl
@[simp] theorem overflowCheck_returned (s : State) : (overflowCheck s).returned = s.returned := by
  unfold overflowCheck; split <;> rfl

theorem overflowCheck_position (s : State) :
    (overflowCheck s).position = if s.position = s.maxFrameLength then 0 else s.position := by
  unfold overflowCheck; split <;> rfl

theorem overflowCheck_runningChecksum (s : State) :
    (overflowCheck s).runningChecksum =
      if s.position = s.maxFrameLength then Config.crcSeed else s.runningChecksum := by
  unfold overflowCheck; split <;> rfl

/-- The position after storage and the overflow step (R159, R160). -/
theorem overflowCheck_storeByte_position (d : Byte) (s : State) :
    (overflowCheck (storeByte d s)).position =
      if s.position + 1 = s.maxFrameLength then 0 else s.position + 1 :=
  overflowCheck_position (storeByte d s)

/-- The checksum after storage and the overflow step (R159, R160). -/
theorem overflowCheck_storeByte_runningChecksum (d : Byte) (s : State) :
    (overflowCheck (storeByte d s)).runningChecksum =
      if s.position + 1 = s.maxFrameLength then Config.crcSeed
      else if 2 ≤ s.position then
        crcUpdate s.runningChecksum ((s.buffer.write s.position d).read (s.position - 2))
      else s.runningChecksum :=
  overflowCheck_runningChecksum (storeByte d s)

/-! `emitEscaped`: what it leaves alone, and what it sends -/

@[simp] theorem emitEscaped_buffer (b : Byte) (s : State) : (emitEscaped b s).buffer = s.buffer := by
  unfold emitEscaped; split <;> rfl
@[simp] theorem emitEscaped_position (b : Byte) (s : State) : (emitEscaped b s).position = s.position := by
  unfold emitEscaped; split <;> rfl
@[simp] theorem emitEscaped_runningChecksum (b : Byte) (s : State) : (emitEscaped b s).runningChecksum = s.runningChecksum := by
  unfold emitEscaped; split <;> rfl
@[simp] theorem emitEscaped_escapePending (b : Byte) (s : State) : (emitEscaped b s).escapePending = s.escapePending := by
  unfold emitEscaped; split <;> rfl
@[simp] theorem emitEscaped_txFcs (b : Byte) (s : State) : (emitEscaped b s).txFcs = s.txFcs := by
  unfold emitEscaped; split <;> rfl
@[simp] theorem emitEscaped_txOpen (b : Byte) (s : State) : (emitEscaped b s).txOpen = s.txOpen := by
  unfold emitEscaped; split <;> rfl
@[simp] theorem emitEscaped_txTyped (b : Byte) (s : State) : (emitEscaped b s).txTyped = s.txTyped := by
  unfold emitEscaped; split <;> rfl
@[simp] theorem emitEscaped_maxFrameLength (b : Byte) (s : State) : (emitEscaped b s).maxFrameLength = s.maxFrameLength := by
  unfold emitEscaped; split <;> rfl
@[simp] theorem emitEscaped_inputs (b : Byte) (s : State) : (emitEscaped b s).inputs = s.inputs := by
  unfold emitEscaped; split <;> rfl
@[simp] theorem emitEscaped_delivered (b : Byte) (s : State) : (emitEscaped b s).delivered = s.delivered := by
  unfold emitEscaped; split <;> rfl
@[simp] theorem emitEscaped_returned (b : Byte) (s : State) : (emitEscaped b s).returned = s.returned := by
  unfold emitEscaped; split <;> rfl

/-- `emit_escaped` appends `esc(b)` (R131). -/
@[simp] theorem emitEscaped_sent (b : Byte) (s : State) : (emitEscaped b s).sent = s.sent ++ escapeBytes b := by
  unfold emitEscaped escapeBytes isMarker
  by_cases h : b = Config.esc
  · simp [h]
  · by_cases h' : b = Config.flag <;> simp [h, h']

/-! The state at reset -/

@[simp] theorem atReset_buffer (n : Nat) : (State.atReset n).buffer = [] := rfl
@[simp] theorem atReset_position (n : Nat) : (State.atReset n).position = 0 := rfl
@[simp] theorem atReset_runningChecksum (n : Nat) : (State.atReset n).runningChecksum = Config.crcSeed := rfl
@[simp] theorem atReset_escapePending (n : Nat) : (State.atReset n).escapePending = false := rfl
@[simp] theorem atReset_txFcs (n : Nat) : (State.atReset n).txFcs = 0 := rfl
@[simp] theorem atReset_txOpen (n : Nat) : (State.atReset n).txOpen = false := rfl
@[simp] theorem atReset_txTyped (n : Nat) : (State.atReset n).txTyped = false := rfl
@[simp] theorem atReset_maxFrameLength (n : Nat) : (State.atReset n).maxFrameLength = n := rfl
@[simp] theorem atReset_inputs (n : Nat) : (State.atReset n).inputs = [] := rfl
@[simp] theorem atReset_sent (n : Nat) : (State.atReset n).sent = [] := rfl
@[simp] theorem atReset_delivered (n : Nat) : (State.atReset n).delivered = [] := rfl
@[simp] theorem atReset_returned (n : Nat) : (State.atReset n).returned = [] := rfl

end Sys2Proof.Machine
end

