-- ==== Sys2Proof/Laws/Ops.lean ====
section
/-! SUPPORT. For each shared operation, once, everything it can do. -/

namespace Sys2Proof.Machine

@[simp] theorem hasCell_iff (s : State) (i : Nat) : s.hasCell i = true ↔ i ≤ s.maxFrameLength := by
  simp [State.hasCell]

/-- Storage answers a next state exactly when the cell exists, and then only one. -/
theorem storeThenCheck_next (d : Byte) (s t : State) :
    storeThenCheck d s = .next t ↔ s.position ≤ s.maxFrameLength ∧ t = overflowCheck (storeByte d s) := by
  unfold storeThenCheck
  split <;> rename_i h <;> simp at h <;> simp [h, eq_comm]

/-- Storage answers a fault exactly when the cell does not exist. -/
theorem storeThenCheck_fault (d : Byte) (s : State) (r : Fault) :
    storeThenCheck d s = .fault r ↔ s.maxFrameLength < s.position ∧ r = .bufferBound s.position := by
  unfold storeThenCheck
  split <;> rename_i h <;> simp at h <;> simp [h, eq_comm]

/-- Storage never refuses. -/
theorem storeThenCheck_not_refused (d : Byte) (s : State) (r : Refusal) : storeThenCheck d s ≠ .refused r := by
  unfold storeThenCheck
  split <;> simp

/-- What storage and the overflow step leave (R159, R160). -/
theorem storeThenCheck_stored (d : Byte) (s t : State) (hm : Memory.wf s.buffer = true)
    (he : s.escapePending = false) (h : storeThenCheck d s = .next t) : StoredAndChecked d s t := by
  obtain ⟨-, rfl⟩ := (storeThenCheck_next d s t).1 h
  refine ⟨?_, ?_, ?_, ?_, ?_, ?_, ⟨?_, ?_, ?_⟩, ⟨?_, ?_, ?_⟩, ?_, ?_⟩ <;> try simp [he]
  · exact Memory.read_write_same _ _ _ hm
  · intro j hj
    simpa using Memory.read_write_other _ _ _ _ hm hj
  · exact Memory.wf_write _ _ _ hm
  · exact overflowCheck_position _
  · rw [overflowCheck_runningChecksum, storeByte_runningChecksum]
    by_cases h2 : 2 ≤ s.position
    · have hr := Memory.read_write_other s.buffer s.position (s.position - 2) d hm (by omega)
      rw [if_pos h2, if_pos h2, hr]
      rfl
    · rw [if_neg h2, if_neg h2]
      rfl

/-- Emitting is appending to `sent`. -/
theorem emitEscaped_eq (b : Byte) (s : State) :
    emitEscaped b s = { s with sent := s.sent ++ escapeBytes b } := by
  have h := emitEscaped_sent b s
  unfold emitEscaped at h ⊢
  split at h <;> rename_i hb <;> simp only [hb, if_true] at h ⊢ <;> simp [emit] at h ⊢ <;> exact h

/-- Step 3 of `send_frame` (R130): the checksum is folded and the escaped bytes are sent, nothing else. -/
theorem sendContent_eq (bs : List Byte) (fcs : Word16) (s : State) :
    sendContent bs fcs s = (bs.foldl crcUpdate fcs, { s with sent := s.sent ++ bs.flatMap escapeBytes }) := by
  induction bs generalizing fcs s with
  | nil => simp [sendContent]
  | cons b bs ih =>
    simp [sendContent, ih, emitEscaped_eq]

/-- Step 4 of `send_frame` (R130): the two checksum bytes are sent, low first, nothing else. -/
theorem sendChecksum_eq (fcs : Word16) (s : State) :
    sendChecksum fcs s =
      { s with sent := s.sent ++ escapeBytes (lo8 fcs) ++ escapeBytes (hi8 fcs) } := by
  simp [sendChecksum, emitEscaped_eq]

/-- The five steps of `send_frame` (R130) are the closed form of R133, nothing else. -/
theorem sendAll_eq (t : Byte) (p : List Byte) (s : State) :
    sendAll t p s = { s with sent := s.sent ++ wire t p } := by
  simp [sendAll, sendContent_eq, sendChecksum_eq, emit, wire, crc]

/-- `send_frame` answers a next state exactly when no streamed frame is open, and then only one. -/
theorem execSendFrame_next (t : Byte) (p : List Byte) (s u : State) :
    execSendFrame t p s = .next u ↔ s.txOpen = false ∧ u = { s with sent := s.sent ++ wire t p } := by
  unfold execSendFrame
  rw [sendAll_eq]
  cases s.txOpen <;> simp [eq_comm]

end Sys2Proof.Machine
end

