-- ==== Sys2Proof/Laws/PerInstr.lean ====
section
/-! SUPPORT. Statements for all rows of the table, one lemma per constructor. -/

namespace Sys2Proof.Laws.SymbolLength

/-- A row with a bit pattern has one wire byte or two (R85, R87). -/
def Statement (i : Instr) : Prop :=
  ∀ bytes, encode i = some bytes → bytes.length = 1 ∨ bytes.length = 2

theorem rxFlagAbort : Statement .rxFlagAbort := by simp [Statement, encode]
theorem rxFlagDeliver : Statement .rxFlagDeliver := by simp [Statement, encode]
theorem rxFlagDiscard : Statement .rxFlagDiscard := by simp [Statement, encode]
theorem rxEsc : Statement .rxEsc := by simp [Statement, encode]
theorem rxDataEscaped (b : Byte) : Statement (.rxDataEscaped b) := by simp [Statement, encode]
theorem rxData (b : Byte) : Statement (.rxData b) := by simp [Statement, encode]
theorem txFlag : Statement .txFlag := by simp [Statement, encode]
theorem txLit (b : Byte) : Statement (.txLit b) := by simp [Statement, encode]
theorem txEsc7d : Statement .txEsc7d := by simp [Statement, encode]
theorem txEsc7e : Statement .txEsc7e := by simp [Statement, encode]
theorem crcUpdate (c : Word16) (b : Byte) : Statement (.crcUpdate c b) := by simp [Statement, encode]
theorem emitEscaped (b : Byte) : Statement (.emitEscaped b) := by simp [Statement, encode]
theorem sendFrame (t : Byte) (p : List Byte) : Statement (.sendFrame t p) := by simp [Statement, encode]
theorem byteReceive (b : Byte) : Statement (.byteReceive b) := by simp [Statement, encode]
theorem onFrame (t : Byte) (p : List Byte) (n : Int) : Statement (.onFrame t p n) := by simp [Statement, encode]
theorem writeByte (b : Byte) : Statement (.writeByte b) := by simp [Statement, encode]
theorem reset : Statement .reset := by simp [Statement, encode]
theorem txStart : Statement .txStart := by simp [Statement, encode]
theorem txByte (b : Byte) : Statement (.txByte b) := by simp [Statement, encode]
theorem txEnd : Statement .txEnd := by simp [Statement, encode]
theorem frameReset : Statement .frameReset := by simp [Statement, encode]
theorem store (d : Byte) : Statement (.store d) := by simp [Statement, encode]
theorem overflow : Statement .overflow := by simp [Statement, encode]

end Sys2Proof.Laws.SymbolLength
end

