-- ==== Sys2Proof/Laws/Step.lean ====
section
/-! SUPPORT. Once, everything a step can do. -/

namespace Sys2Proof.Machine

theorem fetch_nil (s : State) (h : s.inputs = []) : fetch s = .idle := by
  unfold fetch; rw [h]

theorem fetch_wire (s : State) (b : Byte) (rest : List Request) (h : s.inputs = .wire b :: rest) :
    fetch s = .run (s.classOf b) { s with inputs := rest } := by
  unfold fetch; rw [h]

theorem fetch_call (s : State) (i : Instr) (rest : List Request) (h : s.inputs = .call i :: rest) :
    fetch s = if callable i then .run i { s with inputs := rest } else .bad := by
  unfold fetch; rw [h]

/-- A step that answers a next state waits, takes a wire byte, or runs a called operation. -/
theorem step_cases (s t : State) (h : step s = .next t) :
    (s.inputs = [] ∧ t = s) ∨
    (∃ b rest, s.inputs = .wire b :: rest ∧ exec (s.classOf b) { s with inputs := rest } = .next t) ∨
    (∃ i rest, s.inputs = .call i :: rest ∧ callable i = true ∧ exec i { s with inputs := rest } = .next t) := by
  match hi : s.inputs with
  | [] =>
    have hs : s = t := by simpa [step, fetch_nil s hi] using h
    exact .inl ⟨rfl, hs.symm⟩
  | .wire b :: rest =>
    exact .inr (.inl ⟨b, rest, rfl, by simpa [step, fetch_wire s b rest hi] using h⟩)
  | .call i :: rest =>
    by_cases hc : callable i = true
    · exact .inr (.inr ⟨i, rest, rfl, hc, by simpa [step, fetch_call s i rest hi, hc] using h⟩)
    · simp [step, fetch_call s i rest hi, hc] at h

/-- A whole two-byte word is a transmit pair, and emitting the byte it stands for runs it (R131). -/
theorem exec_emitEscaped_of_decodeTx (b c : Byte) (i : Instr) (s : State) (h : decodeTx [b, c] = .ok (i, [])) :
    exec (.emitEscaped (xorEscape c)) s = exec i s := by
  unfold decodeTx at h
  split at h
  · cases h
  · rename_i heq
    cases heq
    split at h
    · split at h
      · cases h
      · rename_i heq
        cases heq
        by_cases h7d : c = 0x5D
        · subst h7d
          cases h
          rfl
        · by_cases h7e : c = 0x5E
          · subst h7e
            cases h
            rfl
          · rw [txSymbolOfPair, if_neg h7d, if_neg h7e] at h
            cases h
    · cases h

/-- A placed table word is the very next thing a step runs (log 9, log 10). -/
theorem step_withFetchWord (s : State) (nbits w : Nat) (i : Instr) (h : decodeTableWord nbits w = some i) :
    step (s.withFetchWord nbits w) = exec i (if w < 256 then frameReset (clearEscape s) else s) := by
  unfold State.withFetchWord placeWord
  rw [h]
  unfold decodeTableWord at h
  split at h
  · cases h
  · split at h <;> rename_i hw
    · cases h
      simp only [hw, if_true]
      rw [step, fetch_wire _ _ s.inputs rfl]
      rfl
    · split at h
      · split at h
        · rename_i hp
          cases h
          simp only [hw, if_false]
          rw [step, fetch_call _ _ s.inputs rfl]
          exact exec_emitEscaped_of_decodeTx _ _ i s hp
        · cases h
      · cases h

/-- What a receive step can answer as its next state, over all bytes and states (R150). -/
theorem execByteReceive_cases (b : Byte) (s t : State) (h : execByteReceive b s = .next t) :
    (b = Config.flag ∧ ∃ c, t = discardFrame c s ∧ (s.escapePending = true → c = .escapeBeforeBoundary)) ∨
    (b = Config.flag ∧ s.escapePending = false ∧ s.frameMatches = true ∧ t = frameReset (deliver s.delivery s)) ∨
    (b = Config.esc ∧ s.escapePending = false ∧ t = setEscape s) ∨
    (b ≠ Config.flag ∧ s.escapePending = true ∧ storeThenCheck (xorEscape b) (clearEscape s) = .next t) ∨
    (b ≠ Config.flag ∧ b ≠ Config.esc ∧ s.escapePending = false ∧ storeThenCheck b s = .next t) := by
  unfold execByteReceive at h
  by_cases hb : b = Config.flag
  · rw [if_pos hb] at h
    by_cases he : s.escapePending = true
    · rw [if_pos he] at h
      cases h
      exact .inl ⟨hb, _, rfl, fun _ => rfl⟩
    · rw [if_neg he] at h
      split at h
      · cases h
      · split at h
        · cases h
          exact .inr (.inl ⟨hb, by simpa using he, ‹_›, rfl⟩)
        · split at h <;> cases h <;> exact .inl ⟨hb, _, rfl, fun h => absurd h he⟩
  · rw [if_neg hb] at h
    by_cases he : s.escapePending = true
    · rw [if_pos he] at h
      exact .inr (.inr (.inr (.inl ⟨hb, he, h⟩)))
    · rw [if_neg he] at h
      have he' : s.escapePending = false := by simpa using he
      split at h
      · cases h
        exact .inr (.inr (.inl ⟨‹_›, he', rfl⟩))
      · exact .inr (.inr (.inr (.inr ⟨hb, ‹_›, he', h⟩)))

end Sys2Proof.Machine
end

