-- ==== Sys2Proof/Tests/Slice0.lean ====
section
/-! SUPPORT. Small tests, their expected values from the spec's worked examples and from 95_test_vectors.md, and for
every obligation with hypotheses a state and operands that meet them. -/

open Sys2Proof Sys2Proof.Machine

namespace Sys2Proof.Tests

/-- Cells from an index on, as the canonical form lists them. -/
def cellsFrom : Nat → List Byte → Memory
  | _, [] => []
  | i, b :: rest => if b = Memory.unlisted then cellsFrom (i + 1) rest else (i, b) :: cellsFrom (i + 1) rest

/-- A receive state in the spec's notation `pos= crc= esc= buf=` (R90), `position` the number of stored bytes. -/
def rx (maxLen : Nat) (stored : List Byte) (checksum : Word16) (esc : Bool) : State :=
  { State.atReset maxLen with
    buffer := cellsFrom 0 stored, position := stored.length, runningChecksum := checksum, escapePending := esc }

/-- The outcome is a next state of which the test holds. -/
def nextIs (o : Host.Outcome State Fault Refusal) (test : State → Bool) : Bool :=
  match o with
  | .next s => test s
  | .fault _ => false
  | .refused _ => false

/-- The outcome is the given refusal. -/
def refusedBy (o : Host.Outcome State Fault Refusal) (r : Refusal) : Bool :=
  match o with
  | .refused q => q == r
  | .next _ => false
  | .fault _ => false

/-- The outcome is the given fault. -/
def faultedBy (o : Host.Outcome State Fault Refusal) (r : Fault) : Bool :=
  match o with
  | .fault q => q == r
  | .next _ => false
  | .refused _ => false

/-- `pos= crc= esc=` of a state. -/
def rxIs (position : Nat) (checksum : Word16) (esc : Bool) (s : State) : Bool :=
  s.position == position && s.runningChecksum == checksum && s.escapePending == esc

/-! ## Well-formedness: an ill-formed term for each check -/

theorem test_wf_escaped_marker : (Instr.rxDataEscaped 0x7E).wellFormed = false := by decide
theorem test_wf_data_marker : (Instr.rxData 0x7E).wellFormed = false := by decide
theorem test_wf_data_escape : (Instr.rxData 0x7D).wellFormed = false := by decide
theorem test_wf_literal_marker : (Instr.txLit 0x7E).wellFormed = false := by decide
theorem test_wf_literal_escape : (Instr.txLit 0x7D).wellFormed = false := by decide
theorem test_wf_delivery_length : (Instr.onFrame 0x00 [0x01] 2).wellFormed = false := by decide
theorem test_wf_delivery_negative : (Instr.onFrame 0x00 [] (-1)).wellFormed = false := by decide
theorem test_wf_degenerate : (Instr.onFrame 0xFF [] (-1)).wellFormed = true := by decide

/-! ## Decoding, the words written out from R85, R86 and the opcode table -/

theorem test_decode_rxFlagAbort : decodeRx true false 0b01111110#8 = .rxFlagAbort := by decide
theorem test_decode_rxFlagAbort_wins : decodeRx true true 0b01111110#8 = .rxFlagAbort := by decide
theorem test_decode_rxFlagDeliver : decodeRx false true 0b01111110#8 = .rxFlagDeliver := by decide
theorem test_decode_rxFlagDiscard : decodeRx false false 0b01111110#8 = .rxFlagDiscard := by decide
theorem test_decode_rxEsc : decodeRx false true 0b01111101#8 = .rxEsc := by decide
theorem test_decode_rxDataEscaped : decodeRx true false 0b01111101#8 = .rxDataEscaped 0x7D := by decide
theorem test_decode_rxData : decodeRx false false 0b01011110#8 = .rxData 0x5E := by decide
theorem test_decode_txFlag : decodeTx [0b01111110#8, 0x00] = .ok (.txFlag, [0x00]) := by decide
theorem test_decode_txLit : decodeTx [0b01011110#8] = .ok (.txLit 0x5E, []) := by decide
theorem test_decode_txEsc7d : decodeTx [0b01111101#8, 0b01011101#8] = .ok (.txEsc7d, []) := by decide
theorem test_decode_txEsc7e : decodeTx [0b01111101#8, 0b01011110#8, 0x41] = .ok (.txEsc7e, [0x41]) := by decide
theorem test_decode_non_canonical : decodeTx [0x7D, 0x25] = .error (.notATransmitPair 0x25) := by decide
theorem test_decode_truncated : decodeTx [0x7D] = .error .truncatedEscape := by decide
theorem test_decode_nothing : decodeTx [] = .error .noBytes := by decide
theorem test_table_word_txEsc7e : decodeTableWord 16 0b0111110101011110 = some .txEsc7e := by decide
theorem test_table_word_txEsc7d : decodeTableWord 16 0b0111110101011101 = some .txEsc7d := by decide
theorem test_table_word_rxFlag : decodeTableWord 8 0b01111110 = some .rxFlagDiscard := by decide
theorem test_table_word_rxEsc : decodeTableWord 8 0b01111101 = some .rxEsc := by decide
theorem test_table_word_rxData : decodeTableWord 8 0 = some (.rxData 0x00) := by decide
theorem test_table_word_no_bits : decodeTableWord 0 0 = none := by decide
theorem test_table_word_not_a_pair : decodeTableWord 16 0x5E7D = none := by decide

/-! ## One step of each row -/

/-- R152's worked example. -/
theorem test_rxFlagAbort : nextIs (exec .rxFlagAbort (rx 8 [0x00, 0x01] 0xFFFF true))
    (fun s => rxIs 0 0xFFFF false s && s.delivered == []) = true := by decide
/-- V27: an abort overrides a frame that would validate. -/
theorem test_rxFlagAbort_valid_frame : nextIs (exec (.byteReceive 0x7E) (rx 8 [0x05, 0x2A, 0x58] 0x582A true))
    (fun s => rxIs 0 0xFFFF false s && s.delivered == []) = true := by decide
/-- R153's worked example. -/
theorem test_rxFlagDeliver : nextIs (exec .rxFlagDeliver (rx 8 [0x00, 0x01, 0x02, 0xF9, 0x03] 0x03F9 false))
    (fun s => rxIs 0 0xFFFF false s && s.delivered == [⟨0x00, [0x01, 0x02], 2⟩]) = true := by decide
/-- V15: the degenerate frame. -/
theorem test_rxFlagDeliver_degenerate : nextIs (exec .rxFlagDeliver (rx 8 [0xFF, 0xFF] 0xFFFF false))
    (fun s => s.delivered == [⟨0xFF, [], -1⟩]) = true := by decide
/-- R154's worked example. -/
theorem test_rxFlagDiscard : nextIs (exec .rxFlagDiscard (rx 8 [0x02, 0xF9, 0x03] 0x2C95 false))
    (fun s => rxIs 0 0xFFFF false s && s.delivered == []) = true := by decide
/-- V14: a runt of one byte. -/
theorem test_rxFlagDiscard_runt : nextIs (exec .rxFlagDiscard (rx 8 [0x41] 0xFFFF false))
    (fun s => rxIs 0 0xFFFF false s && s.delivered == []) = true := by decide
/-- R156's worked example. -/
theorem test_rxEsc : nextIs (exec .rxEsc (rx 8 [0x00, 0x01] 0xFFFF false)) (rxIs 2 0xFFFF true) = true := by decide
/-- R157's worked example. -/
theorem test_rxDataEscaped : nextIs (exec (.rxDataEscaped 0x5E) (rx 8 [] 0xFFFF true))
    (fun s => rxIs 1 0xFFFF false s && s.buffer == [(0, 0x7E)]) = true := by decide
/-- V28: an escaped byte causes the overflow. -/
theorem test_rxDataEscaped_overflow : nextIs (exec (.rxDataEscaped 0x5E) (rx 4 [0x11, 0x22, 0x33] 0x0E8F true))
    (fun s => rxIs 0 0xFFFF false s && s.buffer.slice 0 4 == [0x11, 0x22, 0x33, 0x7E]) = true := by decide
/-- V10: the third stored byte folds the first. -/
theorem test_rxData : nextIs (exec (.rxData 0x02) (rx 16 [0x00, 0x01] 0xFFFF false))
    (fun s => rxIs 3 0x0F87 false s && s.buffer.slice 0 3 == [0x00, 0x01, 0x02]) = true := by decide
/-- V23: the byte that overflows is stored and the frame dropped. -/
theorem test_rxData_overflow : nextIs (exec (.rxData 0xDD) (rx 4 [0xAA, 0xBB, 0xCC] 0x05D7 false))
    (fun s => rxIs 0 0xFFFF false s && s.buffer.slice 0 5 == [0xAA, 0xBB, 0xCC, 0xDD, 0x00]) = true := by decide
/-- R85. -/
theorem test_txFlag : nextIs (exec .txFlag State.reset) (fun s => s.sent == [0x7E]) = true := by decide
theorem test_txLit : nextIs (exec (.txLit 0x5D) State.reset) (fun s => s.sent == [0x5D]) = true := by decide
theorem test_txEsc7d : nextIs (exec .txEsc7d State.reset) (fun s => s.sent == [0x7D, 0x5D]) = true := by decide
theorem test_txEsc7e : nextIs (exec .txEsc7e State.reset) (fun s => s.sent == [0x7D, 0x5E]) = true := by decide
/-- 95_test_vectors.md section 2.1. -/
theorem test_crcUpdate : nextIs (exec (.crcUpdate 0x1234 0x56) State.reset)
    (fun s => s.returned == [0x4006]) = true := by decide
theorem test_crcUpdate_polynomial : nextIs (exec (.crcUpdate 0x0000 0x80) State.reset)
    (fun s => s.returned == [0x8408]) = true := by decide
/-- 95_test_vectors.md section 2.2, the nine ASCII digits. -/
theorem test_crc_check_value :
    crc [0x31, 0x32, 0x33, 0x34, 0x35, 0x36, 0x37, 0x38, 0x39] = 0x6F91 := by decide
/-- R131's worked example, and the values it says are not escaped. -/
theorem test_emitEscaped : nextIs (exec (.emitEscaped 0x7E) State.reset)
    (fun s => s.sent == [0x7D, 0x5E]) = true := by decide
theorem test_emitEscaped_plain : nextIs (exec (.emitEscaped 0x5D) State.reset)
    (fun s => s.sent == [0x5D]) = true := by decide
/-- V1 and V8. -/
theorem test_sendFrame : nextIs (exec (.sendFrame 0x00 [0x01, 0x02]) State.reset)
    (fun s => s.sent == [0x7E, 0x00, 0x01, 0x02, 0xF9, 0x03, 0x7E]) = true := by decide
/-- R142: two frames never interleave their bytes. -/
theorem test_sendFrame_inside_streamed : refusedBy (exec (.sendFrame 0x00 []) { State.reset with txOpen := true })
    .txAlreadyOpen = true := by decide
theorem test_sendFrame_escaped_checksum : nextIs (exec (.sendFrame 0x09 [0xEB]) State.reset)
    (fun s => s.sent == [0x7E, 0x09, 0xEB, 0x7D, 0x5D, 0x7D, 0x5E, 0x7E]) = true := by decide
/-- V18: an escaped escape stores 5D and leaves the flag clear. -/
theorem test_byteReceive : nextIs (exec (.byteReceive 0x7D) (rx 8 [] 0xFFFF true))
    (fun s => rxIs 1 0xFFFF false s && s.buffer == [(0, 0x5D)]) = true := by decide
/-- V16: the closing marker of a frame that had no opening one. -/
theorem test_byteReceive_deliver : nextIs (exec (.byteReceive 0x7E) (rx 8 [0x05, 0x2A, 0x58] 0x582A false))
    (fun s => s.delivered == [⟨0x05, [], 0⟩]) = true := by decide
/-- R190. -/
theorem test_onFrame : nextIs (exec (.onFrame 0x05 [0x01] 1) State.reset)
    (fun s => s.delivered == [⟨0x05, [0x01], 1⟩]) = true := by decide
/-- R135. -/
theorem test_writeByte : nextIs (exec (.writeByte 0x7D) { State.reset with sent := [0x7E] })
    (fun s => s.sent == [0x7E, 0x7D]) = true := by decide
/-- V30: RESET drops the frame and the pending escape; R240: the buffer and tx_fcs are untouched. -/
theorem test_reset : nextIs (exec .reset { rx 8 [0x41] 0xFFFF true with txOpen := true, txFcs := 0x1234 })
    (fun s => rxIs 0 0xFFFF false s && s.buffer == [(0, 0x41)] && !s.txOpen && s.txFcs == 0x1234) = true := by decide
/-- R138 to R140's worked examples. -/
theorem test_txStart : nextIs (exec .txStart State.reset)
    (fun s => s.txFcs == 0xFFFF && s.txOpen && s.sent == [0x7E]) = true := by decide
theorem test_txStart_twice : refusedBy (exec .txStart { State.reset with txOpen := true }) .txAlreadyOpen = true := by
  decide
theorem test_txByte : nextIs (exec (.txByte 0x00) { State.reset with txOpen := true, txFcs := 0xFFFF })
    (fun s => s.txFcs == 0x0F87 && s.sent == [0x00]) = true := by decide
theorem test_txByte_closed : refusedBy (exec (.txByte 0x00) State.reset) .txNotOpen = true := by decide
theorem test_txEnd : nextIs (exec .txEnd { State.reset with txOpen := true, txTyped := true, txFcs := 0x03F9 })
    (fun s => !s.txOpen && s.sent == [0xF9, 0x03, 0x7E]) = true := by decide
theorem test_txEnd_untyped : refusedBy (exec .txEnd { State.reset with txOpen := true }) .txNoTypeByte = true := by
  decide
/-- R151: the flag is left as it is. -/
theorem test_frameReset : nextIs (exec .frameReset (rx 8 [0x00, 0x01, 0x02] 0x0F87 true))
    (rxIs 0 0xFFFF true) = true := by decide
/-- R159's worked example. -/
theorem test_store : nextIs (exec (.store 0x02) (rx 16 [0x00, 0x01] 0xFFFF false))
    (fun s => rxIs 3 0x0F87 false s && s.buffer.slice 0 3 == [0x00, 0x01, 0x02]) = true := by decide
/-- R160: the test is equality, on the position after the increment. -/
theorem test_overflow : nextIs (exec .overflow (rx 4 [0xAA, 0xBB, 0xCC, 0xDD] 0x1234 false))
    (rxIs 0 0xFFFF false) = true := by decide
theorem test_overflow_below : nextIs (exec .overflow (rx 4 [0xAA, 0xBB, 0xCC] 0x05D7 false))
    (rxIs 3 0x05D7 false) = true := by decide

/-! ## Steps, and words placed after reset -/

theorem test_step_wire : nextIs (step { rx 8 [0x05, 0x2A, 0x58] 0x582A false with inputs := [.wire 0x7E, .wire 0x00] })
    (fun s => s.delivered == [⟨0x05, [], 0⟩] && s.inputs == [.wire 0x00]) = true := by decide
theorem test_step_idle : nextIs (step (rx 8 [0x41] 0xFFFF true)) (fun s => s == rx 8 [0x41] 0xFFFF true) = true := by
  decide
theorem test_step_substep_refused :
    refusedBy (step { State.reset with inputs := [.call .frameReset] }) .notCallable = true := by decide
/-- R217: a transmit symbol or the downward event is no call of R9. -/
theorem test_step_symbol_refused :
    refusedBy (step { State.reset with inputs := [.call .txFlag] }) .notCallable = true ∧
    refusedBy (step { State.reset with inputs := [.call (.writeByte 0x41)] }) .notCallable = true := by decide
theorem test_placed_rxData : nextIs (step (State.reset.withFetchWord 8 0x00)) (rxIs 1 0xFFFF false) = true := by decide
theorem test_placed_rxEsc : nextIs (step (State.reset.withFetchWord 8 0x7D)) (rxIs 0 0xFFFF true) = true := by decide
theorem test_placed_txEsc7d : nextIs (step (State.reset.withFetchWord 16 0x7D5D))
    (fun s => s.sent == [0x7D, 0x5D]) = true := by decide
theorem test_construct_zero : State.construct 0 = none := by decide
/-- R193: -1 on an 8-bit port. -/
theorem test_length_port : (Delivery.mk 0xFF [] (-1)).lengthOnPort 8 = 0xFF := by decide
/-- R12: the bits of a position register for MAX_FRAME_LENGTH 8. -/
theorem test_position_width : (State.atReset 8).positionWidth = 4 := by
  simp [State.positionWidth, Nat.clog, Nat.clog.go]
/-- R216: the discard of an abort, and of another cause, in one state. -/
theorem test_discard : (discardFrame .escapeBeforeBoundary (rx 8 [0x41] 0xFFFF true)).escapePending = false ∧
    (discardFrame .runt (rx 8 [0x41] 0xFFFF true)).escapePending = true := by decide

/-! ## Witnesses: for each obligation with hypotheses, operands and states that meet them, at the clauses' edges -/

/-- Three stored bytes of V10, at `MAX_FRAME_LENGTH` 8. -/
def midFrame : State := rx 8 [0x00, 0x01, 0x02] 0x0F87 false

/-- A clean receiver with the buffer of V1 left behind. -/
def cleanRx : State := { State.atReset 8 with buffer := cellsFrom 0 [0x00, 0x01, 0x02, 0xF9, 0x03] }

theorem witness_midFrame_receiver : ReceiverInv midFrame :=
  ⟨by decide, by decide, by decide, by decide, by decide⟩

theorem witness_midFrame : Inv midFrame :=
  ⟨witness_midFrame_receiver, ⟨by decide, by decide⟩, by simp [midFrame, rx]⟩

theorem witness_cleanRx : ReceiverInv cleanRx ∧ ReceiverClean cleanRx :=
  ⟨⟨by decide, by decide, by decide, by decide, by decide⟩, ⟨by decide, by decide, by decide⟩⟩

theorem witness_OneByteChangedChangesChecksum : (0x01 : Byte) ≠ 0x03 := by decide

theorem witness_ReceiveClassConditions_abort : midFrame.escapePending = false ∧
    (rx 8 [0x00, 0x01] 0xFFFF true).escapePending = true := by decide
theorem witness_ReceiveClassConditions_deliver :
    2 ≤ (rx 8 [0xFF, 0xFF] 0xFFFF false).position ∧
    (rx 8 [0xFF, 0xFF] 0xFFFF false).runningChecksum.toNat =
      ((rx 8 [0xFF, 0xFF] 0xFFFF false).buffer.read 1).toNat * 256 +
        ((rx 8 [0xFF, 0xFF] 0xFFFF false).buffer.read 0).toNat := by decide
theorem witness_ReceiveClassConditions_runt : (rx 8 [0xFF] 0xFFFF false).position < 2 := by decide
theorem witness_ReceiveClassConditions_mismatch :
    midFrame.runningChecksum.toNat ≠
      (midFrame.buffer.read 2).toNat * 256 + (midFrame.buffer.read 1).toNat := by decide
theorem witness_ReceiveClassConditions_data : (0x5E : Byte) ≠ 0x7E ∧ (0x5E : Byte) ≠ 0x7D := by decide

theorem witness_ReceiveSymbolsRoundTrip : isReceiveClass (.rxData 0x7F) = true ∧
    (Instr.rxData 0x7F).wellFormed = true := by decide
theorem witness_TransmitStreamDecodesBack :
    ∀ i ∈ [Instr.txFlag, .txLit 0x5D, .txEsc7d, .txEsc7e], isTransmitSymbol i = true ∧ i.wellFormed = true := by decide
theorem witness_TransmitSymbolsEmit : (0x5D : Byte) ≠ 0x7D ∧ (0x5D : Byte) ≠ 0x7E := by decide
theorem witness_LiteralMarkerRefused : (0x7D : Byte) = 0x7D ∨ (0x7D : Byte) = 0x7E := by decide
theorem witness_TxStartOpensFrame : State.reset.txOpen = false := by decide
theorem witness_TxByteFoldsAndEmits : ({ State.reset with txOpen := true } : State).txOpen = true := by decide
theorem witness_TxEndEmitsChecksum :
    ({ State.reset with txOpen := true, txTyped := true } : State).txOpen = true ∧
    ({ State.reset with txOpen := true, txTyped := true } : State).txTyped = true := by decide
theorem witness_StreamingMisuseRefused : ({ State.reset with txOpen := true } : State).txOpen = true ∧
    State.reset.txOpen = false ∧ ∃ t, exec .txStart State.reset = .next t := ⟨by decide, by decide, _, rfl⟩
theorem witness_StreamedFrameEqualsSendFrame : State.reset.txOpen = false := by decide

theorem witness_AbortDiscardsFrame : (rx 8 [0x05, 0x2A, 0x58] 0x582A true).escapePending = true := by decide
/-- The last state in which the compared cells exist: `position = MAX_FRAME_LENGTH + 1`. -/
theorem witness_ValidFrameDelivered :
    (rx 2 [0x05, 0x2A, 0x58] 0x582A false).escapePending = false ∧
    2 ≤ (rx 2 [0x05, 0x2A, 0x58] 0x582A false).position ∧
    (rx 2 [0x05, 0x2A, 0x58] 0x582A false).position ≤ (rx 2 [0x05, 0x2A, 0x58] 0x582A false).maxFrameLength + 1 ∧
    (rx 2 [0x05, 0x2A, 0x58] 0x582A false).runningChecksum.toNat =
      ((rx 2 [0x05, 0x2A, 0x58] 0x582A false).buffer.read 2).toNat * 256 +
        ((rx 2 [0x05, 0x2A, 0x58] 0x582A false).buffer.read 1).toNat := by decide
theorem witness_InvalidFrameDiscarded_runt : (rx 8 [] 0xFFFF false).escapePending = false ∧
    (rx 8 [] 0xFFFF false).position ≤ (rx 8 [] 0xFFFF false).maxFrameLength + 1 ∧
    (rx 8 [] 0xFFFF false).position < 2 := by decide
theorem witness_InvalidFrameDiscarded_mismatch : midFrame.escapePending = false ∧
    midFrame.position ≤ midFrame.maxFrameLength + 1 ∧
    midFrame.runningChecksum.toNat ≠
      (midFrame.buffer.read 2).toNat * 256 + (midFrame.buffer.read 1).toNat := by decide
theorem witness_EscapeMarkerSetsFlag : midFrame.escapePending = false := by decide
/-- At the last cell before the overflow, and at the first cell. -/
theorem witness_EscapedDataStored : (rx 4 [0x11, 0x22, 0x33] 0x0E8F true).escapePending = true ∧
    (0x5E : Byte) ≠ 0x7E ∧
    (rx 4 [0x11, 0x22, 0x33] 0x0E8F true).position ≤ (rx 4 [0x11, 0x22, 0x33] 0x0E8F true).maxFrameLength ∧
    (rx 4 [0x11, 0x22, 0x33] 0x0E8F true).position + 1 = (rx 4 [0x11, 0x22, 0x33] 0x0E8F true).maxFrameLength ∧
    Memory.wf (rx 4 [0x11, 0x22, 0x33] 0x0E8F true).buffer = true := by decide
theorem witness_EscapedDataStored_first : (rx 8 [] 0xFFFF true).escapePending = true ∧ (0x7D : Byte) ≠ 0x7E ∧
    (rx 8 [] 0xFFFF true).position ≤ (rx 8 [] 0xFFFF true).maxFrameLength ∧
    Memory.wf (rx 8 [] 0xFFFF true).buffer = true := by decide
theorem witness_LiteralDataStored : (rx 16 [0x00, 0x01] 0xFFFF false).escapePending = false ∧
    (0x02 : Byte) ≠ 0x7E ∧ (0x02 : Byte) ≠ 0x7D ∧
    (rx 16 [0x00, 0x01] 0xFFFF false).position ≤ (rx 16 [0x00, 0x01] 0xFFFF false).maxFrameLength ∧
    Memory.wf (rx 16 [0x00, 0x01] 0xFFFF false).buffer = true := by decide
theorem witness_LiteralDataStored_overflow : (rx 4 [0xAA, 0xBB, 0xCC] 0x05D7 false).escapePending = false ∧
    (0xDD : Byte) ≠ 0x7E ∧ (0xDD : Byte) ≠ 0x7D ∧
    (rx 4 [0xAA, 0xBB, 0xCC] 0x05D7 false).position + 1 = (rx 4 [0xAA, 0xBB, 0xCC] 0x05D7 false).maxFrameLength ∧
    Memory.wf (rx 4 [0xAA, 0xBB, 0xCC] 0x05D7 false).buffer = true := by decide
/-- At positions 1, 2 and `MAX_FRAME_LENGTH`. -/
theorem witness_StoreAppendsAndFolds :
    (rx 8 [0x00] 0xFFFF false).position ≤ (rx 8 [0x00] 0xFFFF false).maxFrameLength ∧
    (rx 2 [0x01, 0x02] 0xFFFF false).position ≤ (rx 2 [0x01, 0x02] 0xFFFF false).maxFrameLength ∧
    Memory.wf (rx 8 [0x00] 0xFFFF false).buffer = true ∧
    Memory.wf (rx 2 [0x01, 0x02] 0xFFFF false).buffer = true := by decide
theorem witness_ByteReceiveCompletesAndSetsFlag :
    (rx 2 [0x01, 0x02] 0xFFFF false).position ≤ (rx 2 [0x01, 0x02] 0xFFFF false).maxFrameLength := by decide
theorem witness_MarkerLeavesCleanReceiver : midFrame.position ≤ midFrame.maxFrameLength + 1 := by decide
/-- A row that stores nothing, a sub-step, and a row that stores. -/
theorem witness_ReceiveRowsFrame :
    (isReceiveRow .rxEsc = true ∧ storesByte State.reset .rxEsc = false ∧ ∃ t, exec .rxEsc State.reset = .next t) ∧
    (isReceiveRow .frameReset = true ∧ storesByte midFrame .frameReset = false ∧
      ∃ t, exec .frameReset midFrame = .next t) ∧
    (isReceiveRow (.store 0x41) = true ∧ Memory.wf midFrame.buffer = true ∧ ∃ t, exec (.store 0x41) midFrame = .next t) :=
  ⟨⟨rfl, rfl, _, rfl⟩, ⟨rfl, rfl, _, rfl⟩, rfl, rfl, _, rfl⟩
theorem witness_SendFrameEmitsFiveSteps : State.reset.txOpen = false := by decide
theorem witness_TransmitOperationsAreSinkWrites : isTransmitSymbol (.txLit 0x5D) = true ∧
    (Instr.txLit 0x5D).wellFormed = true ∧ State.reset.txOpen = false := by decide
/-- A whole frame, then an open one with a wire byte in between. -/
theorem witness_FramesNeverInterleave :
    nextIs (steps 4 { State.reset with
        inputs := [.call (.sendFrame 0x00 []), .call .txStart, .wire 0x41, .call (.txByte 0x7E)] })
      (fun u => u.txOpen && u.sent == [0x7E, 0x00, 0x87, 0x0F, 0x7E] ++ [0x7E, 0x7D, 0x5E]) = true ∧
    State.reset.txOpen = false ∧
    ∀ r ∈ [Request.call (.sendFrame 0x00 []), .call .txStart, .wire 0x41, .call (.txByte 0x7E)],
      r ≠ .call .reset ∧ ∀ b : Byte, r ≠ .call (.emitEscaped b) :=
  ⟨by decide, by decide, by simp⟩
theorem witness_TransmitRowsFrame : isTransmitRow .txStart = true ∧ ∃ t, exec .txStart State.reset = .next t :=
  ⟨rfl, _, rfl⟩
theorem witness_ReceiveAndTransmitCommute : isTransmitRow .txStart = true ∧
    (∃ t, exec (.byteReceive 0x7D) State.reset = .next t) ∧ ∃ u, exec .txStart State.reset = .next u :=
  ⟨rfl, ⟨_, rfl⟩, _, rfl⟩
theorem witness_MissingCellStops : (rx 1 [0x01, 0x02, 0x03] 0xFFFF false).maxFrameLength + 1 <
    (rx 1 [0x01, 0x02, 0x03] 0xFFFF false).position ∧
    (rx 1 [0x01, 0x02] 0xFFFF true).maxFrameLength < (rx 1 [0x01, 0x02] 0xFFFF true).position ∧
    (rx 1 [0x01, 0x02] 0xFFFF true).escapePending = true ∧
    (rx 1 [0x01, 0x02, 0x03] 0xFFFF false).escapePending = false ∧
    ∃ r, exec (.store 0x41) (rx 1 [0x01, 0x02] 0xFFFF false) = .fault r := ⟨by decide, by decide, by decide, by decide, _, rfl⟩
theorem test_missing_cell : faultedBy (exec (.store 0x41) (rx 1 [0x01, 0x02] 0xFFFF false)) (.bufferBound 2) = true := by
  decide
theorem witness_ClassOutsideConditionRefused : isReceiveClass .rxFlagDeliver = true ∧
    encode .rxFlagDeliver = some [0x7E] ∧ midFrame.classOf 0x7E ≠ .rxFlagDeliver := by decide
theorem witness_DiscardIsSilentAndClean : midFrame.position ≤ midFrame.maxFrameLength ∧
    midFrame.discardCause 0x7E = some .checksumMismatch ∧ midFrame.discardCause 0x41 = none ∧
    (rx 4 [0x11, 0x22, 0x33] 0x0E8F true).discardCause 0x5E = some .overflow ∧
    (rx 8 [0x41] 0xFFFF false).discardCause 0x7E = some .runt ∧
    (rx 8 [0x41] 0xFFFF true).discardCause 0x7E = some .escapeBeforeBoundary ∧
    (rx 8 [0xFF, 0xFF] 0xFFFF false).discardCause 0x7E = none := by decide
theorem witness_ResetActsLikeAbort : ∃ t, exec .reset (rx 8 [0x41] 0xFFFF true) = .next t := ⟨_, rfl⟩
theorem witness_StepRunsFirstRequest :
    ({ midFrame with inputs := [.wire 0x7E] } : State).inputs = .wire 0x7E :: [] ∧
    ({ midFrame with inputs := [.call .overflow] } : State).inputs = .call .overflow :: [] ∧
    ({ midFrame with inputs := [.call .reset] } : State).inputs = .call .reset :: [] ∧
    midFrame.inputs = [] := by decide
theorem witness_DeliveryOnlyAtMarker : ∃ t, step midFrame = .next t := ⟨_, rfl⟩
theorem witness_StepKeepsParameterAndHistory :
    ∃ t, step { midFrame with inputs := [.call .txStart] } = .next t := ⟨_, rfl⟩
theorem witness_StepKeepsInvariant : Inv midFrame ∧ ∃ t, step midFrame = .next t := ⟨witness_midFrame, _, rfl⟩
theorem witness_ConstructedStateMeetsInvariant : 1 ≤ 1 := by decide
theorem witness_ReceiverNeverStops : Inv midFrame := witness_midFrame
/-- An escaped and a literal byte, one below the limit. -/
theorem witness_ReceivedBytesAccumulate : ReceiverInv cleanRx ∧ ReceiverClean cleanRx ∧
    (0x7E : Byte) ∉ [0x7D, 0x5E, 0x41, 0x7D] ∧
    (unescape false [0x7D, 0x5E, 0x41, 0x7D]).length < cleanRx.maxFrameLength :=
  ⟨witness_cleanRx.1, witness_cleanRx.2, by decide, by decide⟩
/-- The longest payload that fits. -/
theorem witness_SentFrameIsDelivered : State.reset.txOpen = false ∧ ReceiverInv cleanRx ∧ ReceiverClean cleanRx ∧
    ([0x01, 0x02, 0x03, 0x04] : List Byte).length + 4 ≤ cleanRx.maxFrameLength :=
  ⟨rfl, witness_cleanRx.1, witness_cleanRx.2, by decide⟩
theorem witness_AnyStateResynchronises : ReceiverInv midFrame ∧
    ([0x01, 0x02, 0x03, 0x04] : List Byte).length + 4 ≤ midFrame.maxFrameLength :=
  ⟨witness_midFrame_receiver, by decide⟩
/-- V20: V1 with bit 1 of the payload byte 01 flipped. -/
theorem witness_ChangedContentByteDiscarded : ReceiverInv cleanRx ∧ ReceiverClean cleanRx ∧
    ([0x01, 0x02] : List Byte).length + 4 ≤ cleanRx.maxFrameLength ∧
    wire 0x00 [0x01, 0x02] = [0x7E] ++ [0x00] ++ [0x01] ++ [0x02, 0xF9, 0x03, 0x7E] ∧
    ([0x00] : List Byte).length < (([0x00, 0x01, 0x02] : List Byte).flatMap escapeBytes).length ∧
    (0x01 : Byte) ≠ 0x7D ∧ (0x01 : Byte) ≠ 0x7E ∧ (0x03 : Byte) ≠ 0x7D ∧ (0x03 : Byte) ≠ 0x7E ∧
    (0x01 : Byte) ≠ 0x03 :=
  ⟨witness_cleanRx.1, witness_cleanRx.2, by decide, by decide, by decide, by decide, by decide, by decide, by decide,
    by decide⟩
/-- A step that delivers from an invariant state: V2's frame at its closing marker. -/
theorem witness_DeliveredFrameFits :
    Inv { rx 8 [0x05, 0x2A, 0x58] 0x582A false with inputs := [.wire 0x7E] } ∧
    ∃ t, step { rx 8 [0x05, 0x2A, 0x58] 0x582A false with inputs := [.wire 0x7E] } = .next t ∧
      t.delivered =
        ({ rx 8 [0x05, 0x2A, 0x58] 0x582A false with inputs := [.wire 0x7E] } : State).delivered ++ [⟨0x05, [], 0⟩] := by
  refine ⟨⟨⟨by decide, by decide, by decide, by decide, by decide⟩, ⟨by decide, by decide⟩, by simp [rx]⟩, _, rfl, ?_⟩
  decide
/-- Exactly `MAX_FRAME_LENGTH` stored bytes, one of them escaped. -/
theorem witness_OverflowResidueIsParsed : ReceiverInv cleanRx ∧ ReceiverClean cleanRx ∧
    (0x7E : Byte) ∉ [0x01, 0x02, 0x03, 0x04, 0x05, 0x06, 0x07, 0x7D, 0x5E] ∧
    (unescape false [0x01, 0x02, 0x03, 0x04, 0x05, 0x06, 0x07, 0x7D, 0x5E]).length = cleanRx.maxFrameLength ∧
    pendingAfter false [0x01, 0x02, 0x03, 0x04, 0x05, 0x06, 0x07, 0x7D, 0x5E] = false ∧
    ([] : List Byte).length + 4 ≤ cleanRx.maxFrameLength :=
  ⟨witness_cleanRx.1, witness_cleanRx.2, by decide, by decide, by decide, by decide⟩
/-- The smallest parameter with which the degenerate frame is delivered (V26). -/
theorem witness_DegenerateFrameDelivered :
    ReceiverInv (State.atReset 3) ∧ ReceiverClean (State.atReset 3) ∧ 3 ≤ (State.atReset 3).maxFrameLength :=
  ⟨⟨by decide, by decide, by decide, by decide, by decide⟩, ⟨rfl, rfl, rfl⟩, by decide⟩

end Sys2Proof.Tests
end

section
/-! The receiver's decode: one equation for each class of R86, and the obligation assembled from them. -/

namespace Sys2Proof.Machine

/-- The validity test fails on a runt or on a checksum mismatch (R154), on natural numbers. -/
theorem frameMatches_false_iff (s : State) :
    s.frameMatches = false ↔
      s.position < 2 ∨
        s.runningChecksum.toNat ≠
          (s.buffer.read (s.position - 1)).toNat * 256 + (s.buffer.read (s.position - 2)).toNat := by
  rw [← Bool.not_eq_true, frameMatches_iff, not_and_or, not_le]

theorem classOf_flag_of_pending (s : State) (he : s.escapePending = true) :
    s.classOf Config.flag = .rxFlagAbort := by
  simp [State.classOf, decodeRx, he]

theorem classOf_flag_of_frameMatches (s : State) (he : s.escapePending = false) (hm : s.frameMatches = true) :
    s.classOf Config.flag = .rxFlagDeliver := by
  simp [State.classOf, decodeRx, he, hm]

theorem classOf_flag_of_not_frameMatches (s : State) (he : s.escapePending = false) (hm : s.frameMatches = false) :
    s.classOf Config.flag = .rxFlagDiscard := by
  simp [State.classOf, decodeRx, he, hm]

theorem classOf_esc_of_not_pending (s : State) (he : s.escapePending = false) :
    s.classOf Config.esc = .rxEsc := by
  have hne : Config.esc ≠ Config.flag := by decide
  simp [State.classOf, decodeRx, he, hne]

theorem classOf_of_pending (s : State) (b : Byte) (hf : b ≠ Config.flag) (he : s.escapePending = true) :
    s.classOf b = .rxDataEscaped b := by
  simp [State.classOf, decodeRx, hf, he]

theorem classOf_of_not_marker (s : State) (b : Byte) (hf : b ≠ Config.flag) (hesc : b ≠ Config.esc)
    (he : s.escapePending = false) : s.classOf b = .rxData b := by
  simp [State.classOf, decodeRx, hf, hesc, he]

/-- Settles O8: each row of R86's table is one equation of `classOf`, and the checksum condition is the validity test. -/
theorem receiveClassConditions : Obligations.ReceiveClassConditions := by
  intro s b
  refine ⟨?abort, ?deliver, ?discard, ?esc, ?dataEscaped, ?data⟩
  case abort =>
    rintro rfl he
    exact classOf_flag_of_pending s he
  case deliver =>
    rintro rfl he hpos hsum
    exact classOf_flag_of_frameMatches s he ((frameMatches_iff s).2 ⟨hpos, hsum⟩)
  case discard =>
    rintro rfl he hfails
    exact classOf_flag_of_not_frameMatches s he ((frameMatches_false_iff s).2 hfails)
  case esc =>
    rintro rfl he
    exact classOf_esc_of_not_pending s he
  case dataEscaped => exact classOf_of_pending s b
  case data => exact classOf_of_not_marker s b

end Sys2Proof.Machine
end

section
/-! `EMIT_ESCAPED`: the escaped form of a byte as the bytes of R131, and the obligation assembled from it. -/

namespace Sys2Proof.Machine

/-- `esc(b)` in the three cases of R131, the two pairs as the bytes that `XOR 0x20` gives. -/
theorem escapeBytes_cases (b : Byte) :
    escapeBytes b =
      if b = 0x7D then [0x7D, 0x5D] else if b = 0x7E then [0x7D, 0x5E] else [b] := by
  split
  case isTrue hesc =>
    subst hesc
    exact escapeBytes_esc
  case isFalse hesc =>
    split
    case isTrue hflag =>
      subst hflag
      exact escapeBytes_flag
    case isFalse hflag => exact escapeBytes_of_not_marker b hflag hesc

/-- `EMIT_ESCAPED` completes in every state and appends `esc(b)` to the outgoing stream (R131). -/
theorem exec_emitEscaped (b : Byte) (s : State) :
    exec (.emitEscaped b) s = .next { s with sent := s.sent ++ escapeBytes b } :=
  congrArg Host.Outcome.next (emitEscaped_eq b s)

/-- Settles O12: the operation appends `esc(b)` and nothing else, and `esc(b)` is the rule's three cases. -/
theorem emitEscapedAppends : Obligations.EmitEscapedAppends := by
  intro b s
  rw [exec_emitEscaped, escapeBytes_cases]

end Sys2Proof.Machine
end

section
/-! The receive path: what the three rows `RX_FLAG_ABORT`, `RX_FLAG_DISCARD` and `RX_ESC` do where their condition holds,
and the obligations assembled from that. -/

namespace Sys2Proof.Machine

/-- `RX_FLAG_ABORT` where its condition holds drops the frame as escape-before-boundary (R152, R211). -/
theorem exec_rxFlagAbort_of_pending (s : State) (he : s.escapePending = true) :
    exec .rxFlagAbort s = .next (discardFrame .escapeBeforeBoundary s) :=
  if_pos he

/-- `RX_FLAG_DISCARD` where its condition holds and the compared cells exist. The cause is a runt or a checksum mismatch
(R154, R211), and either one is the same frame reset (R216). -/
theorem exec_rxFlagDiscard_of_not_frameMatches (s : State) (he : s.escapePending = false)
    (hm : s.frameMatches = false) (hin : s.comparesOutside = false) :
    exec .rxFlagDiscard s = .next (frameReset s) := by
  have hrunt : discardFrame .runt s = frameReset s := discardFrame_eq_frameReset _ s (by decide)
  have hmismatch : discardFrame .checksumMismatch s = frameReset s := discardFrame_eq_frameReset _ s (by decide)
  simp [exec, execRxFlagDiscard, he, hm, hin, hrunt, hmismatch]

/-- `RX_ESC` where its condition holds only sets the flag (R156). -/
theorem exec_rxEsc_of_not_pending (s : State) (he : s.escapePending = false) :
    exec .rxEsc s = .next (setEscape s) :=
  if_neg (ne_true_of_eq_false he)

/-- The bound of log 11: up to `position = MAX_FRAME_LENGTH + 1` the compared cells exist. -/
theorem comparesOutside_false_of_le (s : State) (hpos : s.position ≤ s.maxFrameLength + 1) :
    s.comparesOutside = false := by
  rw [← Bool.not_eq_true, comparesOutside_iff]
  omega

/-- Settles O23: the discard of cause escape-before-boundary clears the flag and resets the frame. -/
theorem abortDiscardsFrame : Obligations.AbortDiscardsFrame :=
  exec_rxFlagAbort_of_pending

/-- Settles O25: the class condition is the failed validity test, and the bound keeps the comparison inside the buffer. -/
theorem invalidFrameDiscarded : Obligations.InvalidFrameDiscarded := by
  intro s he hpos hfails
  have hm : s.frameMatches = false := (frameMatches_false_iff s).2 hfails
  exact exec_rxFlagDiscard_of_not_frameMatches s he hm (comparesOutside_false_of_le s hpos)

/-- Settles O26: the row's whole effect is the flag. -/
theorem escapeMarkerSetsFlag : Obligations.EscapeMarkerSetsFlag :=
  exec_rxEsc_of_not_pending

end Sys2Proof.Machine
end

section
/-! The CRC Engine: the table form and the bit-serial form of the update (R114), and what follows from them. The table
form separates the accumulator's high byte from the byte that enters; a bit step is linear and loses nothing, so eight
of them are linear and lose nothing. -/

namespace Sys2Proof.Machine

/-! ### Words and bytes -/

/-- Adding one word to both sides of a bitwise sum cancels. -/
theorem xor_xor_xor_cancel_right {w : Nat} (x y p : BitVec w) : x ^^^ p ^^^ (y ^^^ p) = x ^^^ y := by
  rw [BitVec.xor_comm y p, ← BitVec.xor_assoc, BitVec.xor_assoc x p p, BitVec.xor_self, BitVec.xor_zero]

/-- Joining two halves that share no bit is adding them bit by bit. -/
theorem shiftLeft_or_ushiftRight_eq_xor (x c : Word16) : x <<< 8 ||| c >>> 8 = x <<< 8 ^^^ c >>> 8 := by
  ext i hi
  by_cases h : i < 8
  · simp [h]
  · have hc : c.getLsbD (8 + i) = false := BitVec.getLsbD_of_ge _ _ (by omega)
    simp [h, hc]

/-- A word is its high byte, shifted up, and its low byte. -/
theorem hi8_xor_lo8 (c : Word16) : (hi8 c).setWidth 16 <<< 8 ^^^ (lo8 c).setWidth 16 = c := by
  ext i hi
  by_cases h : i < 8
  · simp [hi8, lo8, h, BitVec.getLsbD_eq_getElem hi]
  · have hback : 8 + (i - 8) = i := by omega
    simp [hi8, lo8, h, hback, show i - 8 < 8 by omega, BitVec.getLsbD_eq_getElem hi]

/-- The high byte as a word is the word shifted down. -/
theorem setWidth_hi8 (c : Word16) : (hi8 c).setWidth 16 = c >>> 8 := by
  have hc := c.isLt
  apply BitVec.eq_of_toNat_eq
  simp [hi8, Nat.shiftRight_eq_div_pow]
  omega

/-! ### The formula and the table form -/

/-- A byte, widened and shifted up by at most 8, is not cut. -/
theorem toNat_setWidth_shiftLeft (b : Byte) {k : Nat} (hk : k ≤ 8) :
    (b.setWidth 16 <<< k).toNat = b.toNat <<< k := by
  have hlt : b.toNat * 2 ^ k < 2 ^ 16 :=
    calc b.toNat * 2 ^ k < 2 ^ 8 * 2 ^ k := Nat.mul_lt_mul_of_pos_right b.isLt (by positivity)
      _ = 2 ^ (8 + k) := (pow_add 2 8 k).symm
      _ ≤ 2 ^ 16 := Nat.pow_le_pow_right (by decide) (by omega)
  rw [BitVec.toNat_shiftLeft, BitVec.toNat_setWidth_of_le (by decide), Nat.shiftLeft_eq, Nat.mod_eq_of_lt hlt]

/-- The update's value is the formula of R110 read on natural numbers: the byte shift is cut where the rule cuts it, and
no word shift is. -/
theorem crcUpdate_toNat (c : Word16) (b : Byte) : (crcUpdate c b).toNat = crcUpdateNat c.toNat b.toNat := by
  have hlow (n : Nat) : n &&& 0xFF = n % 2 ^ 8 := Nat.and_two_pow_sub_one_eq_mod n 8
  have hb : b.toNat % 2 ^ 8 = b.toNat := Nat.mod_eq_of_lt b.isLt
  simp only [crcUpdate, crcUpdateNat, BitVec.toNat_xor, BitVec.toNat_or, BitVec.toNat_ushiftRight,
    toNat_setWidth_shiftLeft _ (show 8 ≤ 8 by decide), toNat_setWidth_shiftLeft _ (show 3 ≤ 8 by decide),
    BitVec.toNat_setWidth_of_le (show 8 ≤ 16 by decide), BitVec.toNat_shiftLeft, BitVec.toNat_setWidth, hlow,
    Nat.xor_mod_two_pow, hb, Nat.mod_mod]

/-- The table form (R114 (b)). -/
theorem crcUpdate_eq_table (c : Word16) (b : Byte) :
    crcUpdate c b = c >>> 8 ^^^ crcUpdate 0 (c.setWidth 8 ^^^ b) := by
  have hzero : (0 : Word16) >>> 8 = 0#16 := by decide
  have hlow : (0 : Word16).setWidth 8 = 0#8 := by decide
  simp only [crcUpdate, shiftLeft_or_ushiftRight_eq_xor, hzero, hlow, BitVec.xor_zero, BitVec.xor_comm b]
  ac_rfl

/-! ### The bit steps -/

/-- One bit step is linear. -/
theorem crcBit_xor (x y : Word16) : crcBit (x ^^^ y) = crcBit x ^^^ crcBit y := by
  have hcomm (a p z : Word16) : a ^^^ z ^^^ p = a ^^^ p ^^^ z := by ac_rfl
  unfold crcBit
  rw [BitVec.getLsbD_xor, BitVec.ushiftRight_xor_distrib]
  cases x.getLsbD 0 <;> cases y.getLsbD 0
  · rfl
  · exact BitVec.xor_assoc _ _ _
  · exact hcomm _ _ _
  · exact (xor_xor_xor_cancel_right _ _ _).symm

/-- The polynomial puts the bit that leaves at the top. -/
theorem crcBit_getLsbD_15 (x : Word16) : (crcBit x).getLsbD 15 = x.getLsbD 0 := by
  unfold crcBit
  cases h : x.getLsbD 0 <;> simp

/-- One bit step loses nothing: the bit that leaves is the top bit, the others are shifted. -/
theorem crcBit_injective : Function.Injective crcBit := by
  intro x y h
  have hbit : x.getLsbD 0 = y.getLsbD 0 := by
    rw [← crcBit_getLsbD_15, ← crcBit_getLsbD_15, h]
  have hshift : x >>> 1 = y >>> 1 := by
    unfold crcBit at h
    rw [← hbit] at h
    split at h
    · exact (BitVec.xor_left_inj _).1 h
    · exact h
  apply BitVec.eq_of_getLsbD_eq
  rintro (_ | i) _
  · exact hbit
  · simpa [Nat.add_comm 1] using congrArg (·.getLsbD i) hshift

/-- Eight bit steps, those of one byte. -/
def crcEightBits (x : Word16) : Word16 := Nat.repeat crcBit 8 x

theorem crcEightBits_xor (x y : Word16) : crcEightBits (x ^^^ y) = crcEightBits x ^^^ crcEightBits y := by
  simp only [crcEightBits, Nat.repeat, crcBit_xor]

theorem crcEightBits_injective : Function.Injective crcEightBits := by
  intro x y h
  simpa only [crcEightBits, Nat.repeat, crcBit_injective.eq_iff] using h

/-- Eight bit steps shift a high byte down and do nothing else to it. -/
theorem crcEightBits_high : ∀ h : Byte, crcEightBits (h.setWidth 16 <<< 8) = h.setWidth 16 := by
  decide

/-- Eight bit steps turn a low byte into its table entry. -/
theorem crcEightBits_low : ∀ b : Byte, crcEightBits (b.setWidth 16) = crcUpdate 0 b := by
  decide

/-- The update is eight bit steps of the accumulator with the byte added to its low half (R114 (a)). -/
theorem crcUpdate_eq_eightBits (c : Word16) (b : Byte) : crcUpdate c b = crcEightBits (c ^^^ b.setWidth 16) := by
  have hsplit : c ^^^ b.setWidth 16 = (hi8 c).setWidth 16 <<< 8 ^^^ (lo8 c ^^^ b).setWidth 16 := by
    rw [BitVec.setWidth_xor, ← BitVec.xor_assoc, hi8_xor_lo8]
  rw [hsplit, crcEightBits_xor, crcEightBits_high, crcEightBits_low, setWidth_hi8]
  exact crcUpdate_eq_table c b

/-! ### What follows for the update and the fold -/

theorem crcUpdate_xor (c1 c2 : Word16) (b1 b2 : Byte) :
    crcUpdate (c1 ^^^ c2) (b1 ^^^ b2) = crcUpdate c1 b1 ^^^ crcUpdate c2 b2 := by
  rw [crcUpdate_eq_eightBits, crcUpdate_eq_eightBits, crcUpdate_eq_eightBits, ← crcEightBits_xor, BitVec.setWidth_xor]
  congr 1
  ac_rfl

theorem crcUpdate_zero_zero : crcUpdate 0 0 = 0 := by decide

theorem crcUpdate_left_injective (b : Byte) : Function.Injective fun c => crcUpdate c b := by
  intro c1 c2 h
  simp only [crcUpdate_eq_eightBits] at h
  exact (BitVec.xor_left_inj _).1 (crcEightBits_injective h)

theorem crcUpdate_right_injective (c : Word16) : Function.Injective (crcUpdate c) := by
  intro b1 b2 h
  simp only [crcUpdate_eq_eightBits] at h
  have hwide : b1.setWidth 16 = b2.setWidth 16 := (BitVec.xor_right_inj _).1 (crcEightBits_injective h)
  simpa using congrArg (BitVec.setWidth 8) hwide

/-- The accumulator's own low byte only shifts it down. -/
theorem crcUpdate_lo8 (c : Word16) : crcUpdate c (lo8 c) = c >>> 8 := by
  rw [crcUpdate_eq_table, lo8, BitVec.xor_self]
  exact (congrArg (c >>> 8 ^^^ ·) crcUpdate_zero_zero).trans BitVec.xor_zero

/-- The accumulator's own two bytes, low byte first, fold to zero (R114 (f)). -/
theorem crcUpdate_lo8_hi8 (c : Word16) : crcUpdate (crcUpdate c (lo8 c)) (hi8 c) = 0 := by
  rw [crcUpdate_lo8, hi8]
  have hgone : (c >>> 8) >>> 8 = 0#16 := by
    rw [← BitVec.shiftRight_add]
    exact BitVec.ushiftRight_eq_zero (by decide)
  exact (crcUpdate_lo8 (c >>> 8)).trans hgone

/-- Folding loses nothing of the accumulator. -/
theorem foldl_crcUpdate_injective (bs : List Byte) : Function.Injective fun c => bs.foldl crcUpdate c := by
  induction bs with
  | nil => exact fun _ _ h => h
  | cons b bs ih => exact fun _ _ h => crcUpdate_left_injective b (ih h)

theorem crc_ne_of_one_byte (before after : List Byte) {x y : Byte} (h : x ≠ y) :
    crc (before ++ x :: after) ≠ crc (before ++ y :: after) := by
  rw [crc_append, crc_append]
  exact fun heq => h (crcUpdate_right_injective _ (foldl_crcUpdate_injective after heq))

/-! ### The obligations -/

/-- Settles O1: the row records the update's value, and that value is the rule's formula. -/
theorem crcUpdateAnswersFormula : Obligations.CrcUpdateAnswersFormula := fun c b _ =>
  ⟨crcUpdate c b, crcUpdate_toNat c b, rfl⟩

/-- Settles O2: both forms come from the split of the accumulator into its high and its low byte. -/
theorem crcUpdateBitSerialAndTable : Obligations.CrcUpdateBitSerialAndTable := fun c b =>
  ⟨crcUpdate_eq_eightBits c b, crcUpdate_eq_table c b⟩

/-- Settles O3: the bit steps are linear. -/
theorem crcUpdateLinear : Obligations.CrcUpdateLinear :=
  ⟨crcUpdate_xor, crcUpdate_zero_zero⟩

/-- Settles O4: the bit steps lose nothing, and on a finite type an injection is onto. -/
theorem crcUpdateBijectiveAndInjective : Obligations.CrcUpdateBijectiveAndInjective := by
  refine ⟨fun b _ _ h => crcUpdate_left_injective b h, fun b => ?_, fun c _ _ h => crcUpdate_right_injective c h⟩
  exact Finite.surjective_of_injective (crcUpdate_left_injective b)

/-- Settles O5: each of the two checksum bytes cancels the accumulator's low byte. -/
theorem checksumResidueIsZero : Obligations.ChecksumResidueIsZero := by
  refine ⟨crcUpdate_lo8_hi8, fun bs => ?_⟩
  rw [crc_append]
  exact crcUpdate_lo8_hi8 (crc bs)

/-- Settles O6: the update keeps two different bytes apart, and the fold keeps two different accumulators apart. -/
theorem oneByteChangedChangesChecksum : Obligations.OneByteChangedChangesChecksum := fun before after _ _ h =>
  crc_ne_of_one_byte before after h

/-- Settles O7: the checksum is a left fold from the seed. -/
theorem checksumFoldsFromSeed : Obligations.ChecksumFoldsFromSeed :=
  ⟨crc_nil, crc_concat⟩

end Sys2Proof.Machine
end

section
/-! The symbols of the wire (R85, R86): each well-formed transmit symbol is read back from its bytes, and the receive
classes are exactly what the receiver decodes. -/

namespace Sys2Proof.Machine

/-- The well-formed transmit symbols are the two markers' pairs, the boundary marker and the literal bytes (R85). -/
theorem transmitSymbol_cases (i : Instr) (hi : isTransmitSymbol i = true) (hw : i.wellFormed = true) :
    i = .txFlag ∨ i = .txEsc7d ∨ i = .txEsc7e ∨ ∃ b, b ≠ Config.flag ∧ b ≠ Config.esc ∧ i = .txLit b := by
  cases i <;> simp [isTransmitSymbol] at hi ⊢
  case txLit b => simpa [Instr.wellFormed, isMarker_false_iff] using hw

theorem decodeTx_literal (b : Byte) (rest : List Byte) (hf : b ≠ Config.flag) (he : b ≠ Config.esc) :
    decodeTx (b :: rest) = .ok (.txLit b, rest) := by
  simp [decodeTx, txSymbolOfByte, hf, he]

/-- A symbol is read back from the front of its wire bytes, whatever follows. -/
theorem decodeTx_encode (i : Instr) (rest : List Byte) (hi : isTransmitSymbol i = true) (hw : i.wellFormed = true) :
    decodeTx ((encode i).getD [] ++ rest) = .ok (i, rest) := by
  obtain rfl | rfl | rfl | ⟨b, hf, he, rfl⟩ := transmitSymbol_cases i hi hw
  · rfl
  · rfl
  · rfl
  · exact decodeTx_literal b rest hf he

theorem decodeTxAll_literal (b : Byte) (rest : List Byte) (hf : b ≠ Config.flag) (he : b ≠ Config.esc) :
    decodeTxAll false (b :: rest) = (decodeTxAll false rest).map (.txLit b :: ·) := by
  rw [decodeTxAll, if_neg he, txSymbolOfByte, if_neg hf]
  cases decodeTxAll false rest <;> rfl

/-- Reading all the symbols takes the first one off. -/
theorem decodeTxAll_encode (i : Instr) (rest : List Byte) (hi : isTransmitSymbol i = true)
    (hw : i.wellFormed = true) :
    decodeTxAll false ((encode i).getD [] ++ rest) = (decodeTxAll false rest).map (i :: ·) := by
  obtain rfl | rfl | rfl | ⟨b, hf, he, rfl⟩ := transmitSymbol_cases i hi hw
  · show decodeTxAll false (Config.flag :: rest) = _
    rw [decodeTxAll, if_neg (by decide)]
    cases decodeTxAll false rest <;> rfl
  · show decodeTxAll false (Config.esc :: 0x5D :: rest) = _
    rw [decodeTxAll, if_pos rfl, decodeTxAll]
    cases decodeTxAll false rest <;> rfl
  · show decodeTxAll false (Config.esc :: 0x5E :: rest) = _
    rw [decodeTxAll, if_pos rfl, decodeTxAll]
    cases decodeTxAll false rest <;> rfl
  · exact decodeTxAll_literal b rest hf he

/-- A sequence of symbols is read back from its wire bytes. -/
theorem decodeTxAll_flatMap_encode (syms : List Instr)
    (h : ∀ i ∈ syms, isTransmitSymbol i = true ∧ i.wellFormed = true) :
    decodeTxAll false (syms.flatMap fun i => (encode i).getD []) = .ok syms := by
  induction syms with
  | nil => rfl
  | cons i syms ih =>
    obtain ⟨hi, hw⟩ := h i List.mem_cons_self
    rw [List.flatMap_cons, decodeTxAll_encode i _ hi hw, ih fun j hj => h j (List.mem_cons_of_mem i hj)]
    rfl

/-- Settles O10: by induction on the sequence, one symbol's bytes at a time. -/
theorem transmitStreamDecodesBack : Obligations.TransmitStreamDecodesBack := by
  intro syms h
  refine ⟨decodeTxAll_flatMap_encode syms h, ?_⟩
  rintro i tail rfl rest
  obtain ⟨hi, hw⟩ := h i List.mem_cons_self
  exact decodeTx_encode i rest hi hw

/-- Settles O11: each word is one closed decode. -/
theorem tableWordsDecode : Obligations.TableWordsDecode := by
  unfold Obligations.TableWordsDecode
  decide

/-- What the receiver decodes from a byte is a receive class. -/
theorem isReceiveClass_classOf (s : State) (b : Byte) : isReceiveClass (s.classOf b) = true := by
  unfold State.classOf decodeRx
  split_ifs <;> rfl

/-- The class carries only bytes of its condition (R86). -/
theorem wellFormed_classOf (s : State) (b : Byte) : (s.classOf b).wellFormed = true := by
  unfold State.classOf decodeRx
  split_ifs <;> simp [Instr.wellFormed, isMarker, *]

/-- The wire byte of the decoded class is the byte it was decoded from. -/
theorem encode_classOf (s : State) (b : Byte) : encode (s.classOf b) = some [b] := by
  unfold State.classOf decodeRx
  split_ifs <;> simp [encode, *] <;> rfl

/-- A receiver right after reset but for the flag. -/
def pendingRx : State := setEscape State.reset

/-- A receiver that holds the two bytes of a degenerate frame, which the seed matches (R193). -/
def matchingRx : State := { State.reset with buffer := [(0, 0xFF), (1, 0xFF)], position := 2 }

/-- Settles O9: the table's classes are well formed with their own byte, and each is decoded at reset, after an escape
marker, or from a frame that matches. -/
theorem receiveSymbolsRoundTrip : Obligations.ReceiveSymbolsRoundTrip := by
  refine ⟨fun s b => ⟨isReceiveClass_classOf s b, wellFormed_classOf s b, encode_classOf s b⟩, ?_⟩
  intro i hi hw
  cases i <;> simp only [isReceiveClass, Bool.false_eq_true] at hi
  case rxFlagAbort => exact ⟨pendingRx, Config.flag, rfl, classOf_flag_of_pending _ rfl⟩
  case rxFlagDeliver => exact ⟨matchingRx, Config.flag, rfl, classOf_flag_of_frameMatches _ rfl (by decide)⟩
  case rxFlagDiscard => exact ⟨State.reset, Config.flag, rfl, classOf_flag_of_not_frameMatches _ rfl rfl⟩
  case rxEsc => exact ⟨State.reset, Config.esc, rfl, classOf_esc_of_not_pending _ rfl⟩
  case rxDataEscaped b => exact ⟨pendingRx, b, rfl, classOf_of_pending _ b (by simpa [Instr.wellFormed] using hw) rfl⟩
  case rxData b =>
    obtain ⟨hf, he⟩ := (isMarker_false_iff b).1 (by simpa [Instr.wellFormed] using hw)
    exact ⟨State.reset, b, rfl, classOf_of_not_marker _ b hf he rfl⟩

end Sys2Proof.Machine
end

section
/-! The transmit rows: what each one appends and what it refuses (R85, R130 to R142). -/

namespace Sys2Proof.Machine

/-! ### Symbols and sink writes -/

/-- A well-formed symbol appends its wire bytes and changes nothing else (R85). -/
theorem exec_transmitSymbol (i : Instr) (s : State) (hi : isTransmitSymbol i = true) (hw : i.wellFormed = true) :
    exec i s = .next { s with sent := s.sent ++ (encode i).getD [] } := by
  obtain rfl | rfl | rfl | ⟨b, hf, he, rfl⟩ := transmitSymbol_cases i hi hw
  · rfl
  · simp [exec, execTxEsc7d, emit, encode]
  · simp [exec, execTxEsc7e, emit, encode]
  · simp [exec, execTxLit, (isMarker_false_iff b).2 ⟨hf, he⟩, emit, encode]

/-- `TX_LIT` of a marker value is no symbol (log 25). -/
theorem exec_txLit_marker (b : Byte) (s : State) (h : isMarker b = true) : exec (.txLit b) s = .refused .litIsMarker :=
  if_pos h

/-- `WRITE_BYTE` appends its byte (R135). -/
theorem exec_writeByte (b : Byte) (s : State) : exec (.writeByte b) s = .next { s with sent := s.sent ++ [b] } := rfl

/-- Settles O15: the four symbols are well formed, a literal because it is no marker. -/
theorem transmitSymbolsEmit : Obligations.TransmitSymbolsEmit := by
  intro s
  refine ⟨rfl, exec_transmitSymbol .txEsc7d s rfl rfl, exec_transmitSymbol .txEsc7e s rfl rfl, fun b hesc hflag => ?_⟩
  have hw : (Instr.txLit b).wellFormed = true := by
    simpa [Instr.wellFormed] using (isMarker_false_iff b).2 ⟨hflag, hesc⟩
  exact exec_transmitSymbol (.txLit b) s rfl hw

/-- Settles O16: the two excluded operands are the two markers. -/
theorem literalMarkerRefused : Obligations.LiteralMarkerRefused := fun b s h =>
  exec_txLit_marker b s ((isMarker_iff b).2 h.symm)

/-- Settles O17: the row is one sink write. -/
theorem writeByteAppends : Obligations.WriteByteAppends := exec_writeByte

/-! ### The whole frame and the streamed frame -/

theorem exec_sendFrame (t : Byte) (p : List Byte) (s : State) (h : s.txOpen = false) :
    exec (.sendFrame t p) s = .next { s with sent := s.sent ++ wire t p } :=
  (execSendFrame_next t p s _).2 ⟨h, rfl⟩

theorem exec_txStart (s : State) (h : s.txOpen = false) :
    exec .txStart s =
      .next { s with txFcs := Config.crcSeed, txOpen := true, txTyped := false, sent := s.sent ++ [Config.flag] } := by
  simp [exec, execTxStart, h, openFrame, emit]

theorem exec_txByte (b : Byte) (s : State) (h : s.txOpen = true) :
    exec (.txByte b) s =
      .next { s with txFcs := crcUpdate s.txFcs b, txTyped := true, sent := s.sent ++ escapeBytes b } := by
  simp [exec, execTxByte, h, foldTx, emitEscaped_eq]

theorem exec_txEnd (s : State) (h : s.txOpen = true) (ht : s.txTyped = true) :
    exec .txEnd s =
      .next { s with txOpen := false, txTyped := false,
                     sent := s.sent ++ escapeBytes (lo8 s.txFcs) ++ escapeBytes (hi8 s.txFcs) ++ [Config.flag] } := by
  simp [exec, execTxEnd, h, ht, closeFrame, emit, sendChecksum_eq]

theorem exec_txStart_of_open (s : State) (h : s.txOpen = true) : exec .txStart s = .refused .txAlreadyOpen :=
  if_pos h

theorem exec_sendFrame_of_open (t : Byte) (p : List Byte) (s : State) (h : s.txOpen = true) :
    exec (.sendFrame t p) s = .refused .txAlreadyOpen :=
  if_pos h

theorem exec_txByte_of_closed (b : Byte) (s : State) (h : s.txOpen = false) :
    exec (.txByte b) s = .refused .txNotOpen :=
  if_neg (ne_true_of_eq_false h)

theorem exec_txEnd_of_closed (s : State) (h : s.txOpen = false) : exec .txEnd s = .refused .txNotOpen := by
  simp [exec, execTxEnd, h]

theorem exec_txEnd_of_untyped (s : State) (h : s.txOpen = true) (ht : s.txTyped = false) :
    exec .txEnd s = .refused .txNoTypeByte := by
  simp [exec, execTxEnd, h, ht]

/-- Settles O13: the closed form of the wire is the five steps in order. -/
theorem sendFrameEmitsFiveSteps : Obligations.SendFrameEmitsFiveSteps := exec_sendFrame

/-- Settles O18: the registers are written and the opening marker is sent. -/
theorem txStartOpensFrame : Obligations.TxStartOpensFrame := exec_txStart

/-- Settles O19: the byte is folded and sent escaped. -/
theorem txByteFoldsAndEmits : Obligations.TxByteFoldsAndEmits := exec_txByte

/-- Settles O20: the two checksum bytes, low byte first, and the closing marker. -/
theorem txEndEmitsChecksum : Obligations.TxEndEmitsChecksum := exec_txEnd

/-- Settles O21: each misuse is one failed test of the transmitter's bits, and `TX_START` leaves the type bit clear. -/
theorem streamingMisuseRefused : Obligations.StreamingMisuseRefused := by
  intro s
  refine ⟨fun h => ⟨exec_txStart_of_open s h, fun t p => exec_sendFrame_of_open t p s h⟩,
    fun h => ⟨exec_txEnd_of_closed s h, fun b => exec_txByte_of_closed b s h⟩, fun t ht => ?_⟩
  cases h : s.txOpen
  case true =>
    rw [exec_txStart_of_open s h] at ht
    cases ht
  case false =>
    rw [exec_txStart s h] at ht
    cases ht
    exact exec_txEnd_of_untyped _ rfl rfl

/-! ### The frame of the transmit rows -/

/-- What a transmit row does: bytes appended to the outgoing stream, and the transmitter's three elements written. -/
structure TxEffect where
  bytes : List Byte
  fcs : Word16
  opened : Bool
  typed : Bool

/-- The state after a transmit row. -/
def TxEffect.apply (e : TxEffect) (s : State) : State :=
  { s with sent := s.sent ++ e.bytes, txFcs := e.fcs, txOpen := e.opened, txTyped := e.typed }

/-- The effect of a row that leaves the transmitter of the state as it is. -/
def TxEffect.append (bytes : List Byte) (s : State) : TxEffect := ⟨bytes, s.txFcs, s.txOpen, s.txTyped⟩

theorem TxEffect.apply_append (bytes : List Byte) (s r : State) (h : SameTransmitter s r) :
    (TxEffect.append bytes s).apply r = { r with sent := r.sent ++ bytes } := by
  obtain ⟨hfcs, hopen, htyped⟩ := h
  simp only [TxEffect.apply, TxEffect.append, ← hfcs, ← hopen, ← htyped]

theorem SameTransmitter.refl (s : State) : SameTransmitter s s := ⟨rfl, rfl, rfl⟩

theorem escapeBytes_ne_nil (b : Byte) : escapeBytes b ≠ [] := by
  unfold escapeBytes
  split <;> simp

theorem wire_ne_nil (t : Byte) (p : List Byte) : wire t p ≠ [] := by
  simp [wire]

/-- A row that only appends has one effect in every state with the same transmitter. -/
theorem txEffect_of_appends (i : Instr) (s : State) (bytes : List Byte) (hne : bytes ≠ [])
    (h : ∀ r, SameTransmitter s r → exec i r = .next { r with sent := r.sent ++ bytes }) :
    ∃ e : TxEffect, e.bytes ≠ [] ∧ ∀ r, SameTransmitter s r → exec i r = .next (e.apply r) :=
  ⟨.append bytes s, hne, fun r hr => by rw [TxEffect.apply_append bytes s r hr, h r hr]⟩

/-- Everything a transmit row can do: when it answers a next state it has one effect, which depends on the transmitter
alone. -/
theorem transmitRow_effect (i : Instr) (s t : State) (hi : isTransmitRow i = true) (h : exec i s = .next t) :
    ∃ e : TxEffect, e.bytes ≠ [] ∧ ∀ r, SameTransmitter s r → exec i r = .next (e.apply r) := by
  cases i <;> simp only [isTransmitRow, Bool.false_eq_true] at hi
  case txFlag => exact txEffect_of_appends _ s [0x7E] (by simp) fun r _ => exec_transmitSymbol _ r rfl rfl
  case txEsc7d => exact txEffect_of_appends _ s [0x7D, 0x5D] (by simp) fun r _ => exec_transmitSymbol _ r rfl rfl
  case txEsc7e => exact txEffect_of_appends _ s [0x7D, 0x5E] (by simp) fun r _ => exec_transmitSymbol _ r rfl rfl
  case txLit b =>
    cases hb : isMarker b
    case true => simp [exec_txLit_marker b s hb] at h
    case false =>
      have hw : (Instr.txLit b).wellFormed = true := by simpa [Instr.wellFormed] using hb
      exact txEffect_of_appends _ s [b] (by simp) fun r _ => exec_transmitSymbol _ r rfl hw
  case emitEscaped b => exact txEffect_of_appends _ s _ (escapeBytes_ne_nil b) fun r _ => exec_emitEscaped b r
  case writeByte b => exact txEffect_of_appends _ s [b] (by simp) fun r _ => exec_writeByte b r
  case sendFrame t p =>
    obtain ⟨hopen, -⟩ := (execSendFrame_next _ _ s _).1 h
    exact txEffect_of_appends _ s _ (wire_ne_nil t p) fun r hr => exec_sendFrame t p r (hr.2.1.trans hopen)
  case txStart =>
    cases hopen : s.txOpen
    case true => simp [exec_txStart_of_open s hopen] at h
    case false => exact ⟨⟨[Config.flag], _, _, _⟩, by simp, fun r hr => exec_txStart r (hr.2.1.trans hopen)⟩
  case txByte b =>
    cases hopen : s.txOpen
    case false => simp [exec_txByte_of_closed b s hopen] at h
    case true =>
      refine ⟨⟨escapeBytes b, crcUpdate s.txFcs b, true, true⟩, escapeBytes_ne_nil b, fun r hr => ?_⟩
      obtain ⟨hfcs, hopen', -⟩ := hr
      rw [exec_txByte b r (hopen'.trans hopen), ← hfcs, TxEffect.apply, ← hopen'.trans hopen]
  case txEnd =>
    cases hopen : s.txOpen
    case false => simp [exec_txEnd_of_closed s hopen] at h
    case true =>
      cases htyped : s.txTyped
      case false => simp [exec_txEnd_of_untyped s hopen htyped] at h
      case true =>
        refine ⟨⟨escapeBytes (lo8 s.txFcs) ++ escapeBytes (hi8 s.txFcs) ++ [Config.flag], s.txFcs, false, false⟩,
          by simp, fun r hr => ?_⟩
        obtain ⟨hfcs, hopen', htyped'⟩ := hr
        rw [exec_txEnd r (hopen'.trans hopen) (htyped'.trans htyped), ← hfcs, TxEffect.apply]
        simp only [List.append_assoc]

/-- Settles O36: a transmit row's effect touches the transmitter and appends to the outgoing stream. -/
theorem transmitRowsFrame : Obligations.TransmitRowsFrame := by
  intro i s t hi h
  obtain ⟨e, hne, he⟩ := transmitRow_effect i s t hi h
  obtain rfl : e.apply s = t := by simpa [he s (.refl s)] using h
  exact ⟨⟨rfl, rfl, rfl, rfl⟩, rfl, ⟨rfl, rfl, rfl⟩, e.bytes, hne, rfl⟩

end Sys2Proof.Machine
end

section
/-! The wire form of a frame (R133, R134): escaping and undoing it, the marker-free body between two markers, and the
rows that make it up. -/

namespace Sys2Proof.Machine

/-! ### Escaping and undoing it -/

@[simp] theorem unescape_esc (rest : List Byte) : unescape false (Config.esc :: rest) = unescape true rest := rfl

theorem unescape_literal (b : Byte) (rest : List Byte) (h : b ≠ Config.esc) :
    unescape false (b :: rest) = b :: unescape false rest :=
  if_neg h

@[simp] theorem unescape_pending (b : Byte) (rest : List Byte) :
    unescape true (b :: rest) = xorEscape b :: unescape false rest := rfl

@[simp] theorem unescape_nil (f : Bool) : unescape f [] = [] := by cases f <;> rfl

@[simp] theorem pendingAfter_esc (rest : List Byte) :
    pendingAfter false (Config.esc :: rest) = pendingAfter true rest := rfl

theorem pendingAfter_literal (b : Byte) (rest : List Byte) (h : b ≠ Config.esc) :
    pendingAfter false (b :: rest) = pendingAfter false rest :=
  congrArg (pendingAfter · rest) (beq_false_of_ne h)

@[simp] theorem pendingAfter_pending (b : Byte) (rest : List Byte) :
    pendingAfter true (b :: rest) = pendingAfter false rest := rfl

@[simp] theorem pendingAfter_nil (f : Bool) : pendingAfter f [] = f := by cases f <;> rfl

theorem unescape_append (f : Bool) (xs ys : List Byte) :
    unescape f (xs ++ ys) = unescape f xs ++ unescape (pendingAfter f xs) ys := by
  induction xs generalizing f with
  | nil => simp
  | cons b xs ih =>
    cases f
    case true => simp [ih]
    case false =>
      by_cases hb : b = Config.esc
      · simp [hb, ih]
      · simp [unescape_literal, pendingAfter_literal, hb, ih]

theorem pendingAfter_append (f : Bool) (xs ys : List Byte) :
    pendingAfter f (xs ++ ys) = pendingAfter (pendingAfter f xs) ys := by
  induction xs generalizing f with
  | nil => simp
  | cons b xs ih => cases f <;> exact ih _

/-- Escaping a byte is the byte itself, or the escape marker and one of the two transformed markers. -/
theorem escapeBytes_shape (b : Byte) :
    (b ≠ Config.flag ∧ b ≠ Config.esc ∧ escapeBytes b = [b]) ∨
      ∃ c, (c = 0x5D ∨ c = 0x5E) ∧ xorEscape c = b ∧ escapeBytes b = [Config.esc, c] := by
  obtain rfl | hf := eq_or_ne b Config.flag
  · exact .inr ⟨0x5E, .inr rfl, rfl, escapeBytes_flag⟩
  · obtain rfl | he := eq_or_ne b Config.esc
    · exact .inr ⟨0x5D, .inl rfl, rfl, escapeBytes_esc⟩
    · exact .inl ⟨hf, he, escapeBytes_of_not_marker b hf he⟩

theorem unescape_escapeBytes (b : Byte) : unescape false (escapeBytes b) = [b] := by
  obtain ⟨-, hesc, he⟩ | ⟨c, -, hc, he⟩ := escapeBytes_shape b
  · rw [he, unescape_literal b [] hesc, unescape_nil]
  · rw [he, unescape_esc, unescape_pending, unescape_nil, hc]

theorem pendingAfter_escapeBytes (b : Byte) : pendingAfter false (escapeBytes b) = false := by
  obtain ⟨-, hesc, he⟩ | ⟨c, -, -, he⟩ := escapeBytes_shape b
  · rw [he, pendingAfter_literal b [] hesc, pendingAfter_nil]
  · rw [he, pendingAfter_esc, pendingAfter_pending, pendingAfter_nil]

theorem flag_not_mem_escapeBytes (b : Byte) : Config.flag ∉ escapeBytes b := by
  obtain ⟨hflag, -, he⟩ | ⟨c, hc, -, he⟩ := escapeBytes_shape b
  · rw [he, List.mem_singleton]
    exact hflag.symm
  · rw [he]
    obtain rfl | rfl := hc <;> decide

theorem length_escapeBytes (b : Byte) : (escapeBytes b).length = 1 + if isMarker b then 1 else 0 := by
  unfold escapeBytes
  split <;> rfl

theorem unescape_flatMap_escapeBytes (bs : List Byte) : unescape false (bs.flatMap escapeBytes) = bs := by
  induction bs with
  | nil => rfl
  | cons b bs ih =>
    rw [List.flatMap_cons, unescape_append, unescape_escapeBytes, pendingAfter_escapeBytes, ih]
    rfl

theorem pendingAfter_flatMap_escapeBytes (bs : List Byte) : pendingAfter false (bs.flatMap escapeBytes) = false := by
  induction bs with
  | nil => rfl
  | cons b bs ih => rw [List.flatMap_cons, pendingAfter_append, pendingAfter_escapeBytes, ih]

theorem flag_not_mem_flatMap_escapeBytes (bs : List Byte) : Config.flag ∉ bs.flatMap escapeBytes := by
  simp only [List.mem_flatMap, not_exists, not_and]
  exact fun b _ => flag_not_mem_escapeBytes b

theorem length_flatMap_escapeBytes (bs : List Byte) :
    (bs.flatMap escapeBytes).length = bs.length + bs.countP isMarker := by
  induction bs with
  | nil => rfl
  | cons b bs ih =>
    rw [List.flatMap_cons, List.length_append, ih, length_escapeBytes, List.length_cons, List.countP_cons]
    omega

/-- Every escape marker that escaping puts out has a transformed marker after it (R134). -/
theorem pair_of_flatMap_escapeBytes (bs before after : List Byte)
    (h : bs.flatMap escapeBytes = before ++ 0x7D :: after) :
    ∃ c rest, after = c :: rest ∧ (c = 0x5D ∨ c = 0x5E) := by
  induction bs generalizing before with
  | nil => simp at h
  | cons b bs ih =>
    rw [List.flatMap_cons] at h
    obtain ⟨-, hesc, he⟩ | ⟨c, hc, -, he⟩ := escapeBytes_shape b <;> rw [he] at h
    · obtain _ | ⟨x, before⟩ := before
      · exact absurd (List.cons.inj h).1 hesc
      · exact ih before (List.cons.inj h).2
    · obtain _ | ⟨x, _ | ⟨y, before⟩⟩ := before
      · exact ⟨c, _, (List.cons.inj h).2.symm, hc⟩
      · have h7d : c = 0x7D := (List.cons.inj (List.cons.inj h).2).1
        subst h7d
        exact absurd hc (by decide)
      · exact ih before (List.cons.inj (List.cons.inj h).2).2

/-! ### The symbols of escaped bytes -/

theorem isTransmitSymbol_txSymbol (b : Byte) : isTransmitSymbol (txSymbol b) = true := by
  unfold txSymbol
  split_ifs <;> rfl

theorem wellFormed_txSymbol (b : Byte) : (txSymbol b).wellFormed = true := by
  unfold txSymbol
  split_ifs <;> simp [Instr.wellFormed, isMarker, *]

theorem encode_txSymbol (b : Byte) : encode (txSymbol b) = some (escapeBytes b) := by
  unfold txSymbol
  split_ifs with hesc hflag
  · rw [hesc]; rfl
  · rw [hflag]; rfl
  · rw [escapeBytes_of_not_marker b hflag hesc]; rfl

/-! ### The frame -/

/-- The two checksum bytes of a frame, low byte first (R130 step 4). -/
def checksumBytes (t : Byte) (p : List Byte) : List Byte := [lo8 (crc (t :: p)), hi8 (crc (t :: p))]

/-- The unescaped bytes of a frame: content and checksum (R133). -/
def frameBytes (t : Byte) (p : List Byte) : List Byte := t :: p ++ checksumBytes t p

/-- The escaped bytes between the two markers. -/
def wireBody (t : Byte) (p : List Byte) : List Byte := (frameBytes t p).flatMap escapeBytes

theorem wire_eq (t : Byte) (p : List Byte) : wire t p = [Config.flag] ++ wireBody t p ++ [Config.flag] := by
  simp [wire, wireBody, frameBytes, checksumBytes]

/-- The transmit symbols of a frame. -/
def frameSymbols (t : Byte) (p : List Byte) : List Instr := [.txFlag] ++ (frameBytes t p).map txSymbol ++ [.txFlag]

theorem frameSymbols_wellFormed (t : Byte) (p : List Byte) :
    ∀ i ∈ frameSymbols t p, isTransmitSymbol i = true ∧ i.wellFormed = true := by
  intro i hi
  simp only [frameSymbols, List.mem_append, List.mem_singleton, List.mem_map] at hi
  obtain (rfl | ⟨b, -, rfl⟩) | rfl := hi
  · exact ⟨rfl, rfl⟩
  · exact ⟨isTransmitSymbol_txSymbol b, wellFormed_txSymbol b⟩
  · exact ⟨rfl, rfl⟩

/-- The wire form is the wire bytes of its symbols. -/
theorem flatMap_encode_frameSymbols (t : Byte) (p : List Byte) :
    ((frameSymbols t p).flatMap fun i => (encode i).getD []) = wire t p := by
  simp only [frameSymbols, List.flatMap_append, List.flatMap_singleton, List.flatMap_map, encode_txSymbol,
    Option.getD_some]
  exact (wire_eq t p).symm

/-- Settles O14: the body is the escaped content and checksum, and each clause is a law of escaping. -/
theorem wireFormShape : Obligations.WireFormShape := by
  intro t p
  refine ⟨wireBody t p, wire_eq t p, flag_not_mem_flatMap_escapeBytes _, pair_of_flatMap_escapeBytes _,
    unescape_flatMap_escapeBytes _, pendingAfter_flatMap_escapeBytes _, ?_, ?_⟩
  · rw [wire_eq, List.length_append, List.length_append, wireBody, length_flatMap_escapeBytes]
    simp only [frameBytes, checksumBytes, List.length_append, List.length_cons, List.length_nil]
    omega
  · rw [← flatMap_encode_frameSymbols]
    exact decodeTxAll_flatMap_encode _ (frameSymbols_wellFormed t p)

/-! ### Rows run in order -/

theorem runRows_cons (i : Instr) (rest : List Instr) (s t : State) (h : exec i s = .next t) :
    runRows (i :: rest) s = runRows rest t := by
  rw [runRows, h]

/-- Symbols run in order append their wire bytes in order. -/
theorem runRows_transmitSymbols (syms : List Instr) (s : State)
    (h : ∀ i ∈ syms, isTransmitSymbol i = true ∧ i.wellFormed = true) :
    runRows syms s = .next { s with sent := s.sent ++ syms.flatMap fun i => (encode i).getD [] } := by
  induction syms generalizing s with
  | nil => simp [runRows]
  | cons i syms ih =>
    obtain ⟨hi, hw⟩ := h i List.mem_cons_self
    rw [runRows_cons i syms s _ (exec_transmitSymbol i s hi hw), ih _ fun j hj => h j (List.mem_cons_of_mem i hj)]
    simp

/-- Sink writes in order append their bytes in order (R135). -/
theorem runRows_writeBytes (bytes : List Byte) (s : State) :
    runRows (bytes.map .writeByte) s = .next { s with sent := s.sent ++ bytes } := by
  induction bytes generalizing s with
  | nil => simp [runRows]
  | cons b bytes ih =>
    rw [List.map_cons, runRows_cons _ _ s _ (exec_writeByte b s), ih]
    simp

/-- Settles O58: symbols, sink writes and operations all append the same bytes. -/
theorem transmitOperationsAreSinkWrites : Obligations.TransmitOperationsAreSinkWrites := by
  refine ⟨fun i s hi hw => ?_, fun b s => ?_, fun t p s h => ⟨?_, ?_⟩⟩
  · obtain ⟨bytes, hbytes⟩ : ∃ bytes, encode i = some bytes := by
      obtain rfl | rfl | rfl | ⟨b, -, -, rfl⟩ := transmitSymbol_cases i hi hw <;> exact ⟨_, rfl⟩
    refine ⟨bytes, hbytes, ?_⟩
    rw [runRows_writeBytes, exec_transmitSymbol i s hi hw, hbytes, Option.getD_some]
  · rw [exec_emitEscaped, exec_transmitSymbol _ s (isTransmitSymbol_txSymbol b) (wellFormed_txSymbol b),
      encode_txSymbol, Option.getD_some]
  · rw [exec_sendFrame t p s h, ← flatMap_encode_frameSymbols]
    exact (runRows_transmitSymbols _ s (frameSymbols_wellFormed t p)).symm
  · rw [exec_sendFrame t p s h, runRows_writeBytes]

end Sys2Proof.Machine
end

section
/-! The receive rows (R150 to R160): each class where its condition holds, `BYTE_RECEIVE` as the class of its byte, and
what every receive row leaves alone. -/

namespace Sys2Proof.Machine

/-! ### The sub-steps and the classes -/

theorem exec_byteReceive (b : Byte) (s : State) : exec (.byteReceive b) s = execByteReceive b s := rfl

/-- `RX_FLAG_DELIVER` where its condition holds and the compared cells exist (R153). -/
theorem exec_rxFlagDeliver_of_frameMatches (s : State) (he : s.escapePending = false) (hm : s.frameMatches = true)
    (hin : s.comparesOutside = false) : exec .rxFlagDeliver s = .next (frameReset (deliver s.delivery s)) := by
  simp [exec, execRxFlagDeliver, he, hm, hin]

/-- `RX_DATA_ESCAPED` where its condition holds (R157). -/
theorem exec_rxDataEscaped_of_pending (b : Byte) (s : State) (hf : b ≠ Config.flag) (he : s.escapePending = true) :
    exec (.rxDataEscaped b) s = storeThenCheck (xorEscape b) (clearEscape s) := by
  simp [exec, execRxDataEscaped, hf, he]

/-- `RX_DATA` where its condition holds (R158). -/
theorem exec_rxData_of_not_marker (b : Byte) (s : State) (hf : b ≠ Config.flag) (hesc : b ≠ Config.esc)
    (he : s.escapePending = false) : exec (.rxData b) s = storeThenCheck b s := by
  simp [exec, execRxData, (isMarker_false_iff b).2 ⟨hf, hesc⟩, he]

/-- Storage completes when the cell exists. -/
theorem storeThenCheck_of_le (d : Byte) (s : State) (h : s.position ≤ s.maxFrameLength) :
    storeThenCheck d s = .next (overflowCheck (storeByte d s)) :=
  (storeThenCheck_next d s _).2 ⟨h, rfl⟩

/-- The payload slice of R190 is the cells from 1 on. -/
theorem slice_one (m : Memory) (hi : Nat) : m.slice 1 hi = (List.range (hi - 1)).map fun k => m.read (k + 1) := by
  simp [Memory.slice, List.range'_eq_map_range, Nat.add_comm 1, Function.comp_def]

/-- Settles O24: the validity test is the checksum condition, and the payload is the half-open slice. -/
theorem validFrameDelivered : Obligations.ValidFrameDelivered := by
  intro s he hpos hbound hsum
  have hm : s.frameMatches = true := (frameMatches_iff s).2 ⟨hpos, hsum⟩
  rw [exec_rxFlagDeliver_of_frameMatches s he hm (comparesOutside_false_of_le s hbound)]
  simp only [State.delivery, slice_one, Nat.sub_sub]
  rfl

/-- What storage with the flag cleared leaves, told of the state before the flag was cleared. -/
theorem StoredAndChecked.of_clearEscape {d : Byte} {s t : State} (h : StoredAndChecked d (clearEscape s) t) :
    StoredAndChecked d s t :=
  ⟨h.stored, h.others, h.canonical, h.position, h.checksum, h.flag, h.transmitter, h.surroundings, h.sent, h.delivered⟩

/-- Settles O27: the flag is cleared, then the transformed byte is stored and the overflow tested. -/
theorem escapedDataStored : Obligations.EscapedDataStored := by
  intro b s he hf hpos hwf
  have hstore := storeThenCheck_of_le (xorEscape b) (clearEscape s) hpos
  exact ⟨_, (exec_rxDataEscaped_of_pending b s hf he).trans hstore,
    (storeThenCheck_stored _ (clearEscape s) _ hwf rfl hstore).of_clearEscape⟩

/-- Settles O28: the byte is stored as it is and the overflow tested. -/
theorem literalDataStored : Obligations.LiteralDataStored := by
  intro b s he hf hesc hpos hwf
  have hstore := storeThenCheck_of_le b s hpos
  exact ⟨_, (exec_rxData_of_not_marker b s hf hesc he).trans hstore, storeThenCheck_stored _ _ _ hwf he hstore⟩

theorem exec_store_of_le (d : Byte) (s : State) (h : s.position ≤ s.maxFrameLength) :
    exec (.store d) s = .next (storeByte d s) :=
  if_pos ((hasCell_iff s s.position).2 h)

theorem exec_store_of_lt (d : Byte) (s : State) (h : s.maxFrameLength < s.position) :
    exec (.store d) s = .fault (.bufferBound s.position) :=
  if_neg (by simpa using h)

/-- Settles O29: the folded cell is another one than the cell written, so it reads as before. -/
theorem storeAppendsAndFolds : Obligations.StoreAppendsAndFolds := by
  intro d s hpos hwf
  refine ⟨storeByte d s, exec_store_of_le d s hpos, Memory.read_write_same _ _ _ hwf,
    fun j hj => Memory.read_write_other _ _ _ _ hwf hj, Memory.wf_write _ _ _ hwf, rfl, ?_, rfl, .refl s,
    ⟨rfl, rfl, rfl⟩, rfl, rfl⟩
  rw [storeByte_runningChecksum]
  by_cases h2 : 2 ≤ s.position
  · rw [if_pos h2, if_pos (by omega), Memory.read_write_other _ _ _ _ hwf (by omega)]
  · rw [if_neg h2, if_neg (by omega)]

/-- Settles O30: the row is the overflow test alone. -/
theorem overflowResetsFrame : Obligations.OverflowResetsFrame := fun _ => rfl

/-- Settles O31: the row is the frame reset alone. -/
theorem frameResetWritesTwo : Obligations.FrameResetWritesTwo := fun _ => rfl

/-- Settles O41: the row is the delivery alone. -/
theorem onFrameAppendsDelivery : Obligations.OnFrameAppendsDelivery := fun _ _ _ _ => rfl

/-! ### `BYTE_RECEIVE` and the class table -/

@[simp] theorem discardFrame_runt (s : State) : discardFrame .runt s = frameReset s := rfl

@[simp] theorem discardFrame_checksumMismatch (s : State) : discardFrame .checksumMismatch s = frameReset s := rfl

/-- A marker after an escape marker aborts the frame (R152). -/
theorem execByteReceive_flag_of_pending (s : State) (he : s.escapePending = true) :
    execByteReceive Config.flag s = .next (discardFrame .escapeBeforeBoundary s) := by
  simp [execByteReceive, he]

/-- A marker closes the frame: it is delivered where it validates, and dropped otherwise (R153, R154). -/
theorem execByteReceive_flag_of_not_pending (s : State) (he : s.escapePending = false) :
    execByteReceive Config.flag s =
      if s.comparesOutside then .fault (.bufferBound (s.position - 1))
      else if s.frameMatches then .next (frameReset (deliver s.delivery s))
      else .next (frameReset s) := by
  simp [execByteReceive, he]

theorem execByteReceive_esc_of_not_pending (s : State) (he : s.escapePending = false) :
    execByteReceive Config.esc s = .next (setEscape s) := by
  have hne : Config.esc ≠ Config.flag := by decide
  simp [execByteReceive, he, hne]

theorem execByteReceive_of_pending (b : Byte) (s : State) (hf : b ≠ Config.flag) (he : s.escapePending = true) :
    execByteReceive b s = storeThenCheck (xorEscape b) (clearEscape s) := by
  simp [execByteReceive, hf, he]

theorem execByteReceive_of_not_marker (b : Byte) (s : State) (hf : b ≠ Config.flag) (hesc : b ≠ Config.esc)
    (he : s.escapePending = false) : execByteReceive b s = storeThenCheck b s := by
  simp [execByteReceive, hf, hesc, he]

/-- `RX_FLAG_DELIVER` or `RX_FLAG_DISCARD`, whichever the marker is (R153, R154). -/
theorem exec_classOf_flag_of_not_pending (s : State) (he : s.escapePending = false) :
    exec (s.classOf Config.flag) s =
      if s.comparesOutside then .fault (.bufferBound (s.position - 1))
      else if s.frameMatches then .next (frameReset (deliver s.delivery s))
      else .next (frameReset s) := by
  cases hm : s.frameMatches
  · simp [classOf_flag_of_not_frameMatches s he hm, exec, execRxFlagDiscard, he, hm]
  · simp [classOf_flag_of_frameMatches s he hm, exec, execRxFlagDeliver, he, hm]

/-- `BYTE_RECEIVE` runs the class of its byte (R150, R86). -/
theorem exec_byteReceive_eq_classOf (s : State) (b : Byte) : exec (.byteReceive b) s = exec (s.classOf b) s := by
  rw [exec_byteReceive]
  cases he : s.escapePending
  case false =>
    obtain rfl | hf := eq_or_ne b Config.flag
    · rw [execByteReceive_flag_of_not_pending s he, exec_classOf_flag_of_not_pending s he]
    obtain rfl | hesc := eq_or_ne b Config.esc
    · rw [execByteReceive_esc_of_not_pending s he, classOf_esc_of_not_pending s he, exec_rxEsc_of_not_pending s he]
    · rw [execByteReceive_of_not_marker b s hf hesc he, classOf_of_not_marker s b hf hesc he,
        exec_rxData_of_not_marker b s hf hesc he]
  case true =>
    obtain rfl | hf := eq_or_ne b Config.flag
    · rw [execByteReceive_flag_of_pending s he, classOf_flag_of_pending s he, exec_rxFlagAbort_of_pending s he]
    · rw [execByteReceive_of_pending b s hf he, classOf_of_pending s b hf he, exec_rxDataEscaped_of_pending b s hf he]

/-- Settles O32: branch by branch, the pseudocode is the class table. -/
theorem byteReceiveRunsItsClass : Obligations.ByteReceiveRunsItsClass := exec_byteReceive_eq_classOf

/-- A receive class whose byte is of another class in this state is refused (log 7). -/
theorem exec_receiveClass_refused (i : Instr) (b : Byte) (s : State) (hi : isReceiveClass i = true)
    (hb : encode i = some [b]) (h : s.classOf b ≠ i) : exec i s = .refused .rxClassCondition := by
  cases i <;> simp only [isReceiveClass, Bool.false_eq_true] at hi <;>
    obtain rfl : _ = b := (List.cons.inj (Option.some.inj hb)).1
  case rxFlagAbort => exact if_neg fun he => h (classOf_flag_of_pending s he)
  case rxFlagDeliver =>
    refine if_pos ?_
    by_contra hc
    obtain ⟨he, hm⟩ : s.escapePending = false ∧ s.frameMatches = true := by simpa using hc
    exact h (classOf_flag_of_frameMatches s he hm)
  case rxFlagDiscard =>
    refine if_pos ?_
    by_contra hc
    obtain ⟨he, hm⟩ : s.escapePending = false ∧ s.frameMatches = false := by simpa using hc
    exact h (classOf_flag_of_not_frameMatches s he hm)
  case rxEsc =>
    refine if_pos ?_
    by_contra he
    exact h (classOf_esc_of_not_pending s (by simpa using he))
  case rxDataEscaped =>
    refine if_pos ?_
    by_contra hc
    obtain ⟨hf, he⟩ : _ ≠ Config.flag ∧ s.escapePending = true := by simpa using hc
    exact h (classOf_of_pending s _ hf he)
  case rxData =>
    refine if_pos ?_
    by_contra hc
    obtain ⟨hm, he⟩ : isMarker _ = false ∧ s.escapePending = false := by simpa using hc
    obtain ⟨hf, hesc⟩ := (isMarker_false_iff _).1 hm
    exact h (classOf_of_not_marker s _ hf hesc he)

/-- Settles O39: each row's test is its condition in R86, which is what the decode tests. -/
theorem classOutsideConditionRefused : Obligations.ClassOutsideConditionRefused := exec_receiveClass_refused

/-- Every receive class has one wire byte. -/
theorem exists_encode_of_receiveClass (i : Instr) (hi : isReceiveClass i = true) : ∃ b, encode i = some [b] := by
  cases i <;> simp only [isReceiveClass, Bool.false_eq_true] at hi <;> exact ⟨_, rfl⟩

/-- A receive class that is not refused is `BYTE_RECEIVE` of its byte. -/
theorem exec_receiveClass (i : Instr) (s : State) (hi : isReceiveClass i = true)
    (h : exec i s ≠ .refused .rxClassCondition) :
    ∃ b, s.classOf b = i ∧ exec i s = exec (.byteReceive b) s := by
  obtain ⟨b, hb⟩ := exists_encode_of_receiveClass i hi
  have hclass : s.classOf b = i := by
    by_contra hne
    exact h (exec_receiveClass_refused i b s hi hb hne)
  exact ⟨b, hclass, by rw [exec_byteReceive_eq_classOf, hclass]⟩

/-! ### Completion -/

/-- A marker completes while the compared cells exist (log 11). -/
theorem byteReceive_flag_completes (s : State) (h : s.position ≤ s.maxFrameLength + 1) :
    ∃ t, exec (.byteReceive Config.flag) s = .next t := by
  rw [exec_byteReceive]
  cases he : s.escapePending
  · rw [execByteReceive_flag_of_not_pending s he, comparesOutside_false_of_le s h, if_neg Bool.false_ne_true]
    split <;> exact ⟨_, rfl⟩
  · exact ⟨_, execByteReceive_flag_of_pending s he⟩

/-- Every byte completes while the next cell exists. -/
theorem byteReceive_completes (b : Byte) (s : State) (h : s.position ≤ s.maxFrameLength) :
    ∃ t, exec (.byteReceive b) s = .next t := by
  obtain rfl | hf := eq_or_ne b Config.flag
  · exact byteReceive_flag_completes s (by omega)
  rw [exec_byteReceive]
  cases he : s.escapePending
  · obtain rfl | hesc := eq_or_ne b Config.esc
    · exact ⟨_, execByteReceive_esc_of_not_pending s he⟩
    · exact ⟨_, (execByteReceive_of_not_marker b s hf hesc he).trans (storeThenCheck_of_le b s h)⟩
  · exact ⟨_, (execByteReceive_of_pending b s hf he).trans (storeThenCheck_of_le _ (clearEscape s) h)⟩

/-- Storage and the overflow test keep the flag. -/
theorem storeThenCheck_escapePending {d : Byte} {s t : State} (h : storeThenCheck d s = .next t) :
    t.escapePending = s.escapePending := by
  obtain ⟨-, rfl⟩ := (storeThenCheck_next d s t).1 h
  simp

/-- After a marker the receiver is clean (R155). -/
theorem byteReceive_flag_clean {s t : State} (h : exec (.byteReceive Config.flag) s = .next t) :
    ReceiverClean t ∧ t.buffer = s.buffer := by
  obtain ⟨-, c, rfl, hc⟩ | ⟨-, he, -, rfl⟩ | ⟨hb, -⟩ | ⟨hb, -⟩ | ⟨hb, -⟩ := execByteReceive_cases _ s t h
  · refine ⟨⟨by simp, by simp, ?_⟩, by simp⟩
    rw [discardFrame_escapePending]
    cases he : s.escapePending
    · exact ite_self false
    · exact if_pos (hc he)
  · exact ⟨⟨rfl, rfl, he⟩, rfl⟩
  · exact absurd hb (by decide)
  · exact absurd rfl hb
  · exact absurd rfl hb

/-- Settles O34: the marker completes inside the bound, and both its outcomes leave a clean receiver. -/
theorem markerLeavesCleanReceiver : Obligations.MarkerLeavesCleanReceiver := by
  intro s h
  obtain ⟨t, ht⟩ := byteReceive_flag_completes s h
  exact ⟨t, ht, byteReceive_flag_clean ht⟩

/-- The flag after a byte (R28). -/
theorem byteReceive_escapePending {b : Byte} {s t : State} (h : exec (.byteReceive b) s = .next t) :
    t.escapePending = true ↔ b = Config.esc ∧ s.escapePending = false := by
  obtain rfl | hf := eq_or_ne b Config.flag
  · obtain ⟨⟨-, -, hflag⟩, -⟩ := byteReceive_flag_clean h
    have hne : Config.flag ≠ Config.esc := by decide
    simp [hflag, hne]
  obtain ⟨hb, -⟩ | ⟨hb, -⟩ | ⟨hb, he, rfl⟩ | ⟨-, he, hstore⟩ | ⟨-, hesc, he, hstore⟩ := execByteReceive_cases _ s t h
  · exact absurd hb hf
  · exact absurd hb hf
  · simp [hb, he]
  · simp [storeThenCheck_escapePending hstore, he]
  · simp [storeThenCheck_escapePending hstore, he, hesc]

/-- Settles O33: every byte completes within the bound, and only the escape marker's row sets the flag. -/
theorem byteReceiveCompletesAndSetsFlag : Obligations.ByteReceiveCompletesAndSetsFlag := by
  intro s b h
  obtain ⟨t, ht⟩ := byteReceive_completes b s h
  exact ⟨t, ht, byteReceive_escapePending ht⟩

end Sys2Proof.Machine
end

section
/-! What a receive row leaves alone, that the two directions commute, and where a row faults (R58, R59). -/

namespace Sys2Proof.Machine

/-! ### The frame of a received byte -/

/-- What every receive row leaves alone: the transmitter, the outgoing stream and the surroundings. -/
structure ReceiveFrame (s t : State) : Prop where
  transmitter : SameTransmitter s t
  sent : t.sent = s.sent
  surroundings : SameSurroundings s t

theorem ReceiveFrame.refl (s : State) : ReceiveFrame s s := ⟨.refl s, rfl, rfl, rfl, rfl⟩

theorem ReceiveFrame.trans {s t u : State} (h : ReceiveFrame s t) (h' : ReceiveFrame t u) : ReceiveFrame s u := by
  obtain ⟨⟨f, o, y⟩, sent, m, i, r⟩ := h
  obtain ⟨⟨f', o', y'⟩, sent', m', i', r'⟩ := h'
  exact ⟨⟨f'.trans f, o'.trans o, y'.trans y⟩, sent'.trans sent, m'.trans m, i'.trans i, r'.trans r⟩

theorem setEscape_receiveFrame (s : State) : ReceiveFrame s (setEscape s) := ⟨⟨rfl, rfl, rfl⟩, rfl, rfl, rfl, rfl⟩

theorem clearEscape_receiveFrame (s : State) : ReceiveFrame s (clearEscape s) := ⟨⟨rfl, rfl, rfl⟩, rfl, rfl, rfl, rfl⟩

theorem frameReset_receiveFrame (s : State) : ReceiveFrame s (frameReset s) := ⟨⟨rfl, rfl, rfl⟩, rfl, rfl, rfl, rfl⟩

theorem deliver_receiveFrame (d : Delivery) (s : State) : ReceiveFrame s (deliver d s) :=
  ⟨⟨rfl, rfl, rfl⟩, rfl, rfl, rfl, rfl⟩

theorem storeByte_receiveFrame (d : Byte) (s : State) : ReceiveFrame s (storeByte d s) :=
  ⟨⟨rfl, rfl, rfl⟩, rfl, rfl, rfl, rfl⟩

theorem discardFrame_receiveFrame (c : DiscardCause) (s : State) : ReceiveFrame s (discardFrame c s) := by
  cases c
  case escapeBeforeBoundary => exact (clearEscape_receiveFrame s).trans (frameReset_receiveFrame (clearEscape s))
  all_goals exact frameReset_receiveFrame s

theorem overflowCheck_receiveFrame (s : State) : ReceiveFrame s (overflowCheck s) := by
  unfold overflowCheck
  split
  · exact discardFrame_receiveFrame .overflow s
  · exact .refl s

theorem storeThenCheck_receiveFrame {d : Byte} {s t : State} (h : storeThenCheck d s = .next t) : ReceiveFrame s t := by
  obtain ⟨-, rfl⟩ := (storeThenCheck_next d s t).1 h
  exact (storeByte_receiveFrame d s).trans (overflowCheck_receiveFrame (storeByte d s))

theorem byteReceive_receiveFrame {b : Byte} {s t : State} (h : exec (.byteReceive b) s = .next t) :
    ReceiveFrame s t := by
  obtain ⟨-, c, rfl, -⟩ | ⟨-, -, -, rfl⟩ | ⟨-, -, rfl⟩ | ⟨-, -, hstore⟩ | ⟨-, -, -, hstore⟩ :=
    execByteReceive_cases b s t h
  · exact discardFrame_receiveFrame c s
  · exact (deliver_receiveFrame s.delivery s).trans (frameReset_receiveFrame _)
  · exact setEscape_receiveFrame s
  · exact (clearEscape_receiveFrame s).trans (storeThenCheck_receiveFrame hstore)
  · exact storeThenCheck_receiveFrame hstore

/-- Only a marker that closes a valid frame delivers, and it delivers the record of R153. -/
theorem byteReceive_delivered {b : Byte} {s t : State} (h : exec (.byteReceive b) s = .next t) :
    t.delivered = s.delivered ∨
      b = Config.flag ∧ s.escapePending = false ∧ s.frameMatches = true ∧
        t.delivered = s.delivered ++ [s.delivery] := by
  obtain ⟨-, c, rfl, -⟩ | ⟨hb, he, hm, rfl⟩ | ⟨-, -, rfl⟩ | ⟨-, -, hstore⟩ | ⟨-, -, -, hstore⟩ :=
    execByteReceive_cases b s t h
  · exact .inl (discardFrame_delivered c s)
  · exact .inr ⟨hb, he, hm, rfl⟩
  · exact .inl rfl
  · obtain ⟨-, rfl⟩ := (storeThenCheck_next _ _ t).1 hstore
    exact .inl (overflowCheck_delivered _)
  · obtain ⟨-, rfl⟩ := (storeThenCheck_next _ _ t).1 hstore
    exact .inl (overflowCheck_delivered _)

/-- A byte is stored unless it is a marker that is read as one. -/
theorem storesByte_byteReceive (s : State) (b : Byte) :
    storesByte s (.byteReceive b) = (b != Config.flag && (s.escapePending || b != Config.esc)) := rfl

/-- A byte either is stored in the cell at `position`, or leaves the whole buffer as it is. -/
theorem byteReceive_buffer {b : Byte} {s t : State} (h : exec (.byteReceive b) s = .next t) :
    storesByte s (.byteReceive b) = false ∧ t.buffer = s.buffer ∨
      storesByte s (.byteReceive b) = true ∧ ∃ d, t.buffer = s.buffer.write s.position d := by
  obtain ⟨hb, c, rfl, -⟩ | ⟨hb, -, -, rfl⟩ | ⟨hb, he, rfl⟩ | ⟨hf, he, hstore⟩ | ⟨hf, hesc, -, hstore⟩ :=
    execByteReceive_cases b s t h <;> rw [storesByte_byteReceive]
  · exact .inl ⟨by simp [hb], discardFrame_buffer c s⟩
  · exact .inl ⟨by simp [hb], rfl⟩
  · exact .inl ⟨by simp [hb, he], rfl⟩
  · obtain ⟨-, rfl⟩ := (storeThenCheck_next _ _ t).1 hstore
    exact .inr ⟨by simp [hf, he], _, overflowCheck_buffer _⟩
  · obtain ⟨-, rfl⟩ := (storeThenCheck_next _ _ t).1 hstore
    exact .inr ⟨by simp [hf, hesc], _, overflowCheck_buffer _⟩

/-! ### The frame of every receive row -/

/-- Everything a receive row can do: it is the receipt of a byte, or one sub-step alone. -/
theorem receiveRow_cases (i : Instr) (s t : State) (hi : isReceiveRow i = true) (h : exec i s = .next t) :
    (∃ b, (i = .byteReceive b ∨ i = s.classOf b) ∧ exec (.byteReceive b) s = .next t) ∨
      (i = .frameReset ∧ t = frameReset s) ∨ (∃ d, i = .store d ∧ t = storeByte d s) ∨
      (i = .overflow ∧ t = overflowCheck s) := by
  by_cases hclass : isReceiveClass i = true
  · obtain ⟨b, hb, hexec⟩ := exec_receiveClass i s hclass (by simp [h])
    exact .inl ⟨b, .inr hb.symm, hexec ▸ h⟩
  cases i <;> simp only [isReceiveRow, isReceiveClass, Bool.false_eq_true, not_true_eq_false] at hi hclass
  case byteReceive b => exact .inl ⟨b, .inl rfl, h⟩
  case frameReset => exact .inr (.inl ⟨rfl, (Host.Outcome.next.inj h).symm⟩)
  case store d =>
    rcases le_or_gt s.position s.maxFrameLength with hpos | hpos
    · rw [exec_store_of_le d s hpos] at h
      exact .inr (.inr (.inl ⟨d, rfl, (Host.Outcome.next.inj h).symm⟩))
    · rw [exec_store_of_lt d s hpos] at h
      cases h
  case overflow => exact .inr (.inr (.inr ⟨rfl, (Host.Outcome.next.inj h).symm⟩))

/-- The class of a byte stores exactly when `BYTE_RECEIVE` of it does. -/
theorem storesByte_classOf (s : State) (b : Byte) : storesByte s (s.classOf b) = storesByte s (.byteReceive b) := by
  rw [storesByte_byteReceive]
  unfold State.classOf decodeRx
  split_ifs <;> simp [storesByte, *]

theorem receiveRow_receiveFrame {i : Instr} {s t : State} (hi : isReceiveRow i = true) (h : exec i s = .next t) :
    ReceiveFrame s t := by
  obtain ⟨b, -, hb⟩ | ⟨-, rfl⟩ | ⟨d, -, rfl⟩ | ⟨-, rfl⟩ := receiveRow_cases i s t hi h
  · exact byteReceive_receiveFrame hb
  · exact frameReset_receiveFrame s
  · exact storeByte_receiveFrame d s
  · exact overflowCheck_receiveFrame s

/-- A receive row writes the cell at `position` or nothing of the buffer. -/
theorem receiveRow_buffer {i : Instr} {s t : State} (hi : isReceiveRow i = true) (h : exec i s = .next t) :
    storesByte s i = false ∧ t.buffer = s.buffer ∨
      storesByte s i = true ∧ ∃ d, t.buffer = s.buffer.write s.position d := by
  obtain ⟨b, rfl | rfl, hb⟩ | ⟨rfl, rfl⟩ | ⟨d, rfl, rfl⟩ | ⟨rfl, rfl⟩ := receiveRow_cases i s t hi h
  · exact byteReceive_buffer hb
  · rw [storesByte_classOf]
    exact byteReceive_buffer hb
  · exact .inl ⟨rfl, rfl⟩
  · exact .inr ⟨rfl, d, rfl⟩
  · exact .inl ⟨rfl, overflowCheck_buffer s⟩

theorem receiveRow_delivered {i : Instr} {s t : State} (hi : isReceiveRow i = true) (h : exec i s = .next t) :
    t.delivered = s.delivered ∨
      (i = .rxFlagDeliver ∨ i = .byteReceive Config.flag) ∧ ∃ d, t.delivered = s.delivered ++ [d] := by
  obtain ⟨b, hib, hb⟩ | ⟨rfl, rfl⟩ | ⟨d, rfl, rfl⟩ | ⟨rfl, rfl⟩ := receiveRow_cases i s t hi h
  · obtain hsame | ⟨rfl, he, hm, hadd⟩ := byteReceive_delivered hb
    · exact .inl hsame
    · rw [classOf_flag_of_frameMatches s he hm] at hib
      exact .inr ⟨hib.symm, _, hadd⟩
  · exact .inl rfl
  · exact .inl rfl
  · exact .inl (overflowCheck_delivered s)

/-- A buffer with one cell written, or none, keeps its other cells and its form. -/
theorem sameCellsExcept_of_write {s t : State} {i : Nat} (hwf : Memory.wf s.buffer = true)
    (h : t.buffer = s.buffer ∨ ∃ d, t.buffer = s.buffer.write i d) :
    SameCellsExcept i s t ∧ Memory.wf t.buffer = true := by
  obtain h | ⟨d, h⟩ := h
  · exact ⟨fun j _ => by rw [h], h ▸ hwf⟩
  · refine ⟨fun j hj => ?_, ?_⟩
    · rw [h, Memory.read_write_other _ _ _ _ hwf hj]
    · rw [h]
      exact Memory.wf_write _ _ _ hwf

/-- Settles O35: every receive row is the receipt of a byte or one sub-step, and each of these has the frame. -/
theorem receiveRowsFrame : Obligations.ReceiveRowsFrame := by
  intro i s t hi h
  obtain ⟨htx, hsent, hsur⟩ := receiveRow_receiveFrame hi h
  have hbuf := receiveRow_buffer hi h
  refine ⟨htx, hsent, hsur, fun hno => ?_, fun hwf => ?_, receiveRow_delivered hi h⟩
  · obtain ⟨-, hsame⟩ | ⟨hyes, -⟩ := hbuf
    · exact hsame
    · exact absurd (hno.symm.trans hyes) Bool.false_ne_true
  · exact sameCellsExcept_of_write hwf (hbuf.imp And.right And.right)

/-! ### The receiver reads nothing outside its part -/

/-- The receiver's part, the parameter and the deliveries of one state with the rest of another. -/
def State.withOthers (s r : State) : State :=
  { s with txFcs := r.txFcs, txOpen := r.txOpen, txTyped := r.txTyped, inputs := r.inputs, sent := r.sent,
           returned := r.returned }

/-- An outcome with its next state, if there is one, changed. -/
def mapNext (f : State → State) : Host.Outcome State Fault Refusal → Host.Outcome State Fault Refusal
  | .next t => .next (f t)
  | .fault r => .fault r
  | .refused r => .refused r

theorem storeThenCheck_withOthers (d : Byte) (s r : State) :
    storeThenCheck d (s.withOthers r) = mapNext (·.withOthers r) (storeThenCheck d s) := by
  have hcheck : overflowCheck (storeByte d (s.withOthers r)) = (overflowCheck (storeByte d s)).withOthers r :=
    (apply_ite (State.withOthers · r) (s.position + 1 = s.maxFrameLength)
      (discardFrame .overflow (storeByte d s)) (storeByte d s)).symm
  rcases le_or_gt s.position s.maxFrameLength with h | h
  · rw [storeThenCheck_of_le d s h, storeThenCheck_of_le d (s.withOthers r) h, hcheck]
    rfl
  · rw [(storeThenCheck_fault d s _).2 ⟨h, rfl⟩, (storeThenCheck_fault d (s.withOthers r) _).2 ⟨h, rfl⟩]
    rfl

/-- Receiving a byte has one outcome whatever stands outside the receiver. -/
theorem exec_byteReceive_withOthers (b : Byte) (s r : State) :
    exec (.byteReceive b) (s.withOthers r) = mapNext (·.withOthers r) (exec (.byteReceive b) s) := by
  rw [exec_byteReceive, exec_byteReceive]
  cases he : s.escapePending
  case false =>
    obtain rfl | hf := eq_or_ne b Config.flag
    · rw [execByteReceive_flag_of_not_pending s he, execByteReceive_flag_of_not_pending (s.withOthers r) he]
      have hin : (s.withOthers r).comparesOutside = s.comparesOutside := rfl
      have hm : (s.withOthers r).frameMatches = s.frameMatches := rfl
      rw [hin, hm]
      split_ifs <;> rfl
    obtain rfl | hesc := eq_or_ne b Config.esc
    · rw [execByteReceive_esc_of_not_pending s he, execByteReceive_esc_of_not_pending (s.withOthers r) he]
      rfl
    · rw [execByteReceive_of_not_marker b s hf hesc he, execByteReceive_of_not_marker b (s.withOthers r) hf hesc he]
      exact storeThenCheck_withOthers b s r
  case true =>
    obtain rfl | hf := eq_or_ne b Config.flag
    · rw [execByteReceive_flag_of_pending s he, execByteReceive_flag_of_pending (s.withOthers r) he]
      rfl
    · rw [execByteReceive_of_pending b s hf he, execByteReceive_of_pending b (s.withOthers r) hf he]
      exact storeThenCheck_withOthers (xorEscape b) (clearEscape s) r

/-- Receiving a byte and a transmit row's effect commute. -/
theorem exec_byteReceive_apply {b : Byte} {s t : State} (e : TxEffect) (h : exec (.byteReceive b) s = .next t) :
    exec (.byteReceive b) (e.apply s) = .next (e.apply t) := by
  obtain ⟨-, hsent, -, hin, hret⟩ := byteReceive_receiveFrame h
  have hs : e.apply s = s.withOthers (e.apply s) := rfl
  have ht : t.withOthers (e.apply s) = e.apply t := by
    simp only [State.withOthers, TxEffect.apply, ← hsent, ← hin, ← hret]
  rw [hs, exec_byteReceive_withOthers, h]
  exact congrArg Host.Outcome.next ht

/-- Settles O37: a transmit row reads the transmitter alone, which the receiver leaves as it is, and the receiver reads
nothing of what the transmit row changes. -/
theorem receiveAndTransmitCommute : Obligations.ReceiveAndTransmitCommute := by
  intro b i s t u hi ht hu
  obtain ⟨e, -, he⟩ := transmitRow_effect i s u hi hu
  obtain rfl : e.apply s = u := by simpa [he s (.refl s)] using hu
  exact ⟨e.apply t, he t (byteReceive_receiveFrame ht).transmitter, exec_byteReceive_apply e ht⟩

/-! ### Faults -/

/-- A received byte faults only on a missing cell, the next one or one that a marker would compare. -/
theorem byteReceive_fault {b : Byte} {s : State} {r : Fault} (h : exec (.byteReceive b) s = .fault r) :
    s.maxFrameLength < s.position ∧ r = .bufferBound s.position ∨
      s.maxFrameLength + 1 < s.position ∧ r = .bufferBound (s.position - 1) := by
  rw [exec_byteReceive] at h
  cases he : s.escapePending
  case false =>
    obtain rfl | hf := eq_or_ne b Config.flag
    · rw [execByteReceive_flag_of_not_pending s he] at h
      split_ifs at h with hout
      exact .inr ⟨((comparesOutside_iff s).1 hout).1, (Host.Outcome.fault.inj h).symm⟩
    obtain rfl | hesc := eq_or_ne b Config.esc
    · rw [execByteReceive_esc_of_not_pending s he] at h
      cases h
    · rw [execByteReceive_of_not_marker b s hf hesc he] at h
      exact .inl ((storeThenCheck_fault b s r).1 h)
  case true =>
    obtain rfl | hf := eq_or_ne b Config.flag
    · rw [execByteReceive_flag_of_pending s he] at h
      cases h
    · rw [execByteReceive_of_pending b s hf he] at h
      exact .inl ((storeThenCheck_fault _ (clearEscape s) r).1 h)

/-- A row that is no receive row does not fault. -/
theorem isReceiveRow_of_fault {i : Instr} {s : State} {r : Fault} (h : exec i s = .fault r) :
    isReceiveRow i = true := by
  cases i
  case rxFlagAbort | rxFlagDeliver | rxFlagDiscard | rxEsc | rxDataEscaped | rxData | byteReceive | frameReset
      | store | overflow => rfl
  case txFlag | txEsc7d | txEsc7e | crcUpdate | emitEscaped | onFrame | writeByte | reset => cases h
  case txLit | sendFrame | txStart | txByte | txEnd =>
    simp only [exec, execTxLit, execSendFrame, execTxStart, execTxByte, execTxEnd] at h
    split_ifs at h

/-- Settles O38: storage faults on the next cell, a marker on the last compared one, and nothing else faults. -/
theorem missingCellStops : Obligations.MissingCellStops := by
  refine ⟨fun s hpos => ⟨fun d => exec_store_of_lt d s hpos, fun b he hf hesc => ?_, fun b he hf => ?_,
    fun he hpos' => ?_⟩, fun i s r h => ⟨isReceiveRow_of_fault h, ?_⟩⟩
  · rw [exec_rxData_of_not_marker b s hf hesc he]
    exact (storeThenCheck_fault b s _).2 ⟨hpos, rfl⟩
  · rw [exec_rxDataEscaped_of_pending b s hf he]
    exact (storeThenCheck_fault _ (clearEscape s) _).2 ⟨hpos, rfl⟩
  · have hout : s.comparesOutside = true := (comparesOutside_iff s).2 ⟨hpos', by omega⟩
    exact (execByteReceive_flag_of_not_pending s he).trans (if_pos hout)
  · by_cases hclass : isReceiveClass i = true
    · obtain ⟨b, -, hexec⟩ := exec_receiveClass i s hclass (by simp [h])
      exact byteReceive_fault (hexec ▸ h)
    · have hi := isReceiveRow_of_fault h
      cases i <;> simp only [isReceiveRow, isReceiveClass, Bool.false_eq_true, not_true_eq_false] at hi hclass
      case byteReceive b => exact byteReceive_fault h
      case frameReset => cases h
      case store d =>
        rcases le_or_gt s.position s.maxFrameLength with hpos | hpos
        · rw [exec_store_of_le d s hpos] at h
          cases h
        · rw [exec_store_of_lt d s hpos] at h
          exact .inl ⟨hpos, (Host.Outcome.fault.inj h).symm⟩
      case overflow => cases h

/-! ### Discards -/

/-- Storage and the overflow test: the frame is dropped, or `position` advances; nothing is delivered. -/
theorem storeThenCheck_clean_or_advances {d : Byte} {s t : State} (he : s.escapePending = false)
    (h : storeThenCheck d s = .next t) :
    (if s.position + 1 = s.maxFrameLength then ReceiverClean t else t.position = s.position + 1) ∧
      t.delivered = s.delivered := by
  obtain ⟨-, rfl⟩ := (storeThenCheck_next d s t).1 h
  refine ⟨?_, overflowCheck_delivered _⟩
  have hpos := overflowCheck_storeByte_position d s
  have hsum := overflowCheck_storeByte_runningChecksum d s
  by_cases hfull : s.position + 1 = s.maxFrameLength
  · rw [if_pos hfull] at hpos hsum ⊢
    exact ⟨hpos, hsum, (overflowCheck_escapePending _).trans he⟩
  · rw [if_neg hfull] at hpos ⊢
    exact hpos

theorem discardCause_flag_of_pending (s : State) (he : s.escapePending = true) :
    s.discardCause Config.flag = some .escapeBeforeBoundary := by
  simp [State.discardCause, he]

/-- A marker has no cause exactly when the frame validates. -/
theorem discardCause_flag_eq_none_iff (s : State) (he : s.escapePending = false) :
    s.discardCause Config.flag = none ↔ s.frameMatches = true := by
  unfold State.discardCause State.frameMatches
  by_cases hpos : 2 ≤ s.position
  · simp [he, hpos, Nat.not_lt.2 hpos]
  · simp [he, hpos, Nat.not_le.1 hpos]

theorem discardCause_esc (s : State) (he : s.escapePending = false) : s.discardCause Config.esc = none := by
  have hne : Config.esc ≠ Config.flag := by decide
  simp [State.discardCause, he, hne]

/-- A byte that is stored has a cause exactly when it fills the frame. -/
theorem discardCause_of_stored (b : Byte) (s : State) (hf : b ≠ Config.flag)
    (h : b ≠ Config.esc ∨ s.escapePending = true) :
    s.discardCause b = if s.position + 1 = s.maxFrameLength then some .overflow else none := by
  unfold State.discardCause
  rw [if_neg hf, if_neg]
  simp only [Bool.and_eq_true, decide_eq_true_eq, Bool.not_eq_true', not_and, Bool.not_eq_false]
  exact fun hb => h.resolve_left (not_not.2 hb)

/-- What receiving a byte leaves, by its discard cause. -/
def DiscardOutcome (s : State) (t : State) : Option DiscardCause → Prop
  | some _ => ReceiverClean t ∧ t.delivered = s.delivered
  | none => (∃ d, t.delivered = s.delivered ++ [d]) ∨
      (t.delivered = s.delivered ∧ (t.escapePending = true ∨ t.position = s.position + 1))

theorem discardOutcome_of_stored {d : Byte} {s t : State} (he : s.escapePending = false)
    (h : storeThenCheck d s = .next t) :
    DiscardOutcome s t (if s.position + 1 = s.maxFrameLength then some .overflow else none) := by
  obtain ⟨hpos, hdel⟩ := storeThenCheck_clean_or_advances he h
  split_ifs at hpos ⊢
  · exact ⟨hpos, hdel⟩
  · exact .inr ⟨hdel, .inr hpos⟩

theorem byteReceive_discardOutcome {b : Byte} {s t : State} (h : exec (.byteReceive b) s = .next t) :
    DiscardOutcome s t (s.discardCause b) := by
  cases he : s.escapePending
  case false =>
    obtain rfl | hf := eq_or_ne b Config.flag
    · cases hm : s.discardCause Config.flag
      case none =>
        have hmatch := (discardCause_flag_eq_none_iff s he).1 hm
        rw [exec_byteReceive, execByteReceive_flag_of_not_pending s he] at h
        simp only [hmatch, if_true] at h
        split_ifs at h
        cases h
        exact .inl ⟨s.delivery, rfl⟩
      case some c =>
        obtain hsame | ⟨-, -, hmatch, -⟩ := byteReceive_delivered h
        · exact ⟨(byteReceive_flag_clean h).1, hsame⟩
        · rw [(discardCause_flag_eq_none_iff s he).2 hmatch] at hm
          cases hm
    obtain rfl | hesc := eq_or_ne b Config.esc
    · rw [discardCause_esc s he]
      rw [exec_byteReceive, execByteReceive_esc_of_not_pending s he] at h
      cases h
      exact .inr ⟨rfl, .inl rfl⟩
    · rw [discardCause_of_stored b s hf (.inl hesc)]
      rw [exec_byteReceive, execByteReceive_of_not_marker b s hf hesc he] at h
      exact discardOutcome_of_stored he h
  case true =>
    obtain rfl | hf := eq_or_ne b Config.flag
    · rw [discardCause_flag_of_pending s he]
      rw [exec_byteReceive, execByteReceive_flag_of_pending s he] at h
      cases h
      exact ⟨⟨rfl, rfl, rfl⟩, rfl⟩
    · rw [discardCause_of_stored b s hf (.inr he)]
      rw [exec_byteReceive, execByteReceive_of_pending b s hf he] at h
      exact discardOutcome_of_stored (s := clearEscape s) rfl h

/-- Settles O40: a byte completes within the bound, and its outcome goes by its cause. -/
theorem discardIsSilentAndClean : Obligations.DiscardIsSilentAndClean := by
  intro s b hpos
  obtain ⟨t, ht⟩ := byteReceive_completes b s hpos
  have hout := byteReceive_discardOutcome ht
  refine ⟨fun c hc => ?_, fun hnone => ?_⟩
  · rw [hc] at hout
    obtain ⟨hclean, hdel⟩ := hout
    exact ⟨t, ht, hclean, hdel, (byteReceive_receiveFrame ht).sent⟩
  · rw [hnone] at hout
    exact ⟨t, ht, hout⟩

end Sys2Proof.Machine
end

section
/-! One step (R7): what the first request makes of the state, and what every step keeps. -/

namespace Sys2Proof.Machine

/-! ### The first request -/

theorem step_idle (s : State) (h : s.inputs = []) : step s = .next s := by
  rw [step, fetch_nil s h]

theorem step_wire (s : State) (b : Byte) (rest : List Request) (h : s.inputs = .wire b :: rest) :
    step s = exec (s.classOf b) { s with inputs := rest } := by
  rw [step, fetch_wire s b rest h]

theorem step_call (s : State) (i : Instr) (rest : List Request) (h : s.inputs = .call i :: rest)
    (hc : callable i = true) : step s = exec i { s with inputs := rest } := by
  rw [step, fetch_call s i rest h, if_pos hc]

theorem step_not_callable (s : State) (i : Instr) (rest : List Request) (h : s.inputs = .call i :: rest)
    (hc : callable i = false) : step s = .refused .notCallable := by
  rw [step, fetch_call s i rest h, if_neg (ne_true_of_eq_false hc)]

/-- The model's test of a call is the list of R9. -/
theorem callable_eq_isCall (i : Instr) : callable i = isCall i := by cases i <;> rfl

/-- Settles O45: the front of the requests decides, and a call is taken exactly when it is one of R9's. -/
theorem stepRunsFirstRequest : Obligations.StepRunsFirstRequest := fun s rest =>
  ⟨fun b h => step_wire s b rest h,
    fun i h => ⟨fun hc => step_call s i rest h ((callable_eq_isCall i).trans hc),
      fun hc => step_not_callable s i rest h ((callable_eq_isCall i).trans hc)⟩,
    step_idle s⟩

/-! ### Reset and construction -/

theorem exec_reset (s : State) :
    exec .reset s =
      .next { s with position := 0, runningChecksum := Config.crcSeed, escapePending := false,
                     txOpen := false, txTyped := false } := rfl

/-- Settles O42: the row writes the reset values and nothing else. -/
theorem resetOperation : Obligations.ResetOperation := exec_reset

theorem construct_of_pos (n : Nat) (h : 1 ≤ n) : State.construct n = some (State.atReset n) :=
  if_neg (by omega)

/-- Settles O43: construction tests the parameter alone. -/
theorem constructedState : Obligations.ConstructedState :=
  ⟨rfl, fun n h => ⟨State.atReset n, construct_of_pos n h, ⟨rfl, rfl, rfl⟩, rfl, rfl, rfl, rfl, rfl⟩,
    Config.maxFrameLength, rfl⟩

/-! ### Everything a step can do -/

/-- What a call of the transmit path leaves: the five operations of R9 that emit, where they are not refused. -/
inductive TransmitCall (s : State) : Instr → State → Prop
  | emitEscaped (b : Byte) : TransmitCall s (.emitEscaped b) { s with sent := s.sent ++ escapeBytes b }
  | sendFrame (t : Byte) (p : List Byte) (closed : s.txOpen = false) :
    TransmitCall s (.sendFrame t p) { s with sent := s.sent ++ wire t p }
  | txStart (closed : s.txOpen = false) :
    TransmitCall s .txStart
      { s with txFcs := Config.crcSeed, txOpen := true, txTyped := false, sent := s.sent ++ [Config.flag] }
  | txByte (b : Byte) (opened : s.txOpen = true) :
    TransmitCall s (.txByte b)
      { s with txFcs := crcUpdate s.txFcs b, txTyped := true, sent := s.sent ++ escapeBytes b }
  | txEnd (opened : s.txOpen = true) (typed : s.txTyped = true) :
    TransmitCall s .txEnd
      { s with txOpen := false, txTyped := false,
               sent := s.sent ++ escapeBytes (lo8 s.txFcs) ++ escapeBytes (hi8 s.txFcs) ++ [Config.flag] }

/-- What a request leaves of the state from which it was taken off. -/
inductive Taken (s : State) : Request → State → Prop
  | wire (b : Byte) (t : State) (h : exec (.byteReceive b) s = .next t) : Taken s (.wire b) t
  | byteReceive (b : Byte) (t : State) (h : exec (.byteReceive b) s = .next t) : Taken s (.call (.byteReceive b)) t
  | crcUpdate (c : Word16) (b : Byte) : Taken s (.call (.crcUpdate c b)) (answer (crcUpdate c b) s)
  | reset :
    Taken s (.call .reset)
      { s with position := 0, runningChecksum := Config.crcSeed, escapePending := false,
               txOpen := false, txTyped := false }
  | transmit (i : Instr) (t : State) (h : TransmitCall s i t) : Taken s (.call i) t

/-- A called operation that answers a next state is one of R9's, where it is not refused. -/
theorem taken_of_call (i : Instr) (s t : State) (hc : callable i = true) (h : exec i s = .next t) :
    Taken s (.call i) t := by
  cases i <;> simp only [callable, Bool.false_eq_true] at hc
  case crcUpdate c b => cases h; exact .crcUpdate c b
  case byteReceive b => exact .byteReceive b t h
  case reset => cases h; exact .reset
  case emitEscaped b =>
    rw [exec_emitEscaped] at h
    cases h; exact .transmit _ _ (.emitEscaped b)
  case sendFrame typeByte payload =>
    obtain ⟨hopen, rfl⟩ := (execSendFrame_next typeByte payload s t).1 h
    exact .transmit _ _ (.sendFrame typeByte payload hopen)
  case txStart =>
    cases hopen : s.txOpen
    · rw [exec_txStart s hopen] at h
      cases h; exact .transmit _ _ (.txStart hopen)
    · rw [exec_txStart_of_open s hopen] at h
      cases h
  case txByte b =>
    cases hopen : s.txOpen
    · rw [exec_txByte_of_closed b s hopen] at h
      cases h
    · rw [exec_txByte b s hopen] at h
      cases h; exact .transmit _ _ (.txByte b hopen)
  case txEnd =>
    cases hopen : s.txOpen
    · rw [exec_txEnd_of_closed s hopen] at h
      cases h
    · cases htyped : s.txTyped
      · rw [exec_txEnd_of_untyped s hopen htyped] at h
        cases h
      · rw [exec_txEnd s hopen htyped] at h
        cases h; exact .transmit _ _ (.txEnd hopen htyped)

/-- A step waits, or takes the first request. -/
theorem step_taken (s t : State) (h : step s = .next t) :
    (s.inputs = [] ∧ t = s) ∨ ∃ r rest, s.inputs = r :: rest ∧ Taken { s with inputs := rest } r t := by
  obtain hidle | ⟨b, rest, hin, hexec⟩ | ⟨i, rest, hin, hc, hexec⟩ := step_cases s t h
  · exact .inl hidle
  · refine .inr ⟨_, rest, hin, .wire b t ?_⟩
    rw [exec_byteReceive_eq_classOf]
    exact hexec
  · exact .inr ⟨_, rest, hin, taken_of_call i _ t hc hexec⟩

/-- A call of the transmit path leaves the receiver and the surroundings alone and only appends. -/
theorem TransmitCall.frame {s : State} {i : Instr} {t : State} (h : TransmitCall s i t) :
    SameReceiver s t ∧ t.delivered = s.delivered ∧ SameSurroundings s t ∧ s.sent <+: t.sent := by
  cases h
  case txEnd =>
    refine ⟨⟨rfl, rfl, rfl, rfl⟩, rfl, ⟨rfl, rfl, rfl⟩, ?_⟩
    simp only [List.append_assoc]
    exact List.prefix_append _ _
  all_goals exact ⟨⟨rfl, rfl, rfl, rfl⟩, rfl, ⟨rfl, rfl, rfl⟩, List.prefix_append _ _⟩

/-! ### Deliveries and history -/

/-- Only a marker that closes a valid frame delivers, and it delivers the record of R153. -/
theorem Taken.delivered {s : State} {r : Request} {t : State} (h : Taken s r t) :
    t.delivered = s.delivered ∨
      (r = .wire Config.flag ∨ r = .call (.byteReceive Config.flag)) ∧ s.escapePending = false ∧
        s.frameMatches = true ∧ t.delivered = s.delivered ++ [s.delivery] := by
  cases h
  case wire b h => exact (byteReceive_delivered h).imp_right fun ⟨hb, hrest⟩ => ⟨.inl (hb ▸ rfl), hrest⟩
  case byteReceive b h => exact (byteReceive_delivered h).imp_right fun ⟨hb, hrest⟩ => ⟨.inr (hb ▸ rfl), hrest⟩
  case crcUpdate => exact .inl rfl
  case reset => exact .inl rfl
  case transmit i h => exact .inl h.frame.2.1

/-- Settles O46: only the receipt of a marker delivers, and only where the frame validates, which needs two bytes. -/
theorem deliveryOnlyAtMarker : Obligations.DeliveryOnlyAtMarker := by
  intro s t h
  obtain ⟨-, rfl⟩ | ⟨r, rest, hin, htaken⟩ := step_taken s t h
  · exact .inl rfl
  obtain hsame | ⟨hr, he, hm, hadd⟩ := htaken.delivered
  · exact .inl hsame
  · refine .inr ⟨rest, _, ?_, he, ((frameMatches_iff _).1 hm).1, hadd⟩
    obtain rfl | rfl := hr
    · exact .inl hin
    · exact .inr hin

/-- What a request keeps: the parameter, the requests after it, and the history of the streams. -/
theorem Taken.history {s : State} {r : Request} {t : State} (h : Taken s r t) :
    t.maxFrameLength = s.maxFrameLength ∧ s.sent <+: t.sent ∧ s.delivered <+: t.delivered ∧
      s.returned <+: t.returned ∧ t.inputs = s.inputs := by
  have hdel : s.delivered <+: t.delivered := by
    obtain hsame | ⟨-, -, -, hadd⟩ := h.delivered
    · exact hsame ▸ List.prefix_rfl
    · exact hadd ▸ List.prefix_append _ _
  have hreceive {b : Byte} (hb : exec (.byteReceive b) s = .next t) :
      t.maxFrameLength = s.maxFrameLength ∧ s.sent <+: t.sent ∧ s.delivered <+: t.delivered ∧
        s.returned <+: t.returned ∧ t.inputs = s.inputs := by
    obtain ⟨-, hsent, hmax, hin, hret⟩ := byteReceive_receiveFrame hb
    exact ⟨hmax, hsent ▸ List.prefix_rfl, hdel, hret ▸ List.prefix_rfl, hin⟩
  cases h
  case wire b h => exact hreceive h
  case byteReceive b h => exact hreceive h
  case crcUpdate => exact ⟨rfl, List.prefix_rfl, hdel, List.prefix_append _ _, rfl⟩
  case reset => exact ⟨rfl, List.prefix_rfl, hdel, List.prefix_rfl, rfl⟩
  case transmit i h =>
    obtain ⟨-, -, ⟨hmax, hin, hret⟩, hsent⟩ := h.frame
    exact ⟨hmax, hsent, hdel, hret ▸ List.prefix_rfl, hin⟩

/-- Settles O47: the first request is taken off, and what it does only appends. -/
theorem stepKeepsParameterAndHistory : Obligations.StepKeepsParameterAndHistory := by
  intro s t h
  obtain ⟨hin, rfl⟩ | ⟨r, rest, hin, htaken⟩ := step_taken s t h
  · exact ⟨rfl, List.prefix_rfl, List.prefix_rfl, List.prefix_rfl, by rw [hin]; rfl⟩
  · obtain ⟨hmax, hsent, hdel, hret, hrest⟩ := htaken.history
    exact ⟨hmax, hsent, hdel, hret, by rw [hrest, hin]; rfl⟩

/-! ### Steps in order -/

theorem steps_succ (k : Nat) (s t : State) (h : step s = .next t) : steps (k + 1) s = steps k t := by
  rw [steps, h]

/-- The first of the operations asked for is run, the others still to come. -/
theorem steps_ask (i : Instr) (ops : List Instr) (k : Nat) (s t : State) (hc : callable i = true)
    (h : exec i (s.ask ops) = .next t) : steps (k + 1) (s.ask (i :: ops)) = steps k t :=
  steps_succ k _ t ((step_call _ i (s.ask ops).inputs rfl hc).trans h)

/-! ### The streamed frame -/

/-- The streamed bytes of an open frame are folded and sent escaped, one step each (R139). -/
theorem steps_ask_txBytes (p : List Byte) (ops : List Instr) (k : Nat) (s : State) (hopen : s.txOpen = true) :
    steps (p.length + k) (s.ask (p.map .txByte ++ ops)) =
      steps k ({ s with txFcs := p.foldl crcUpdate s.txFcs, txTyped := s.txTyped || !p.isEmpty,
                        sent := s.sent ++ p.flatMap escapeBytes }.ask ops) := by
  induction p generalizing s with
  | nil => simp
  | cons b p ih =>
    have hlen : (b :: p).length + k = p.length + k + 1 := by rw [List.length_cons]; omega
    rw [hlen, List.map_cons, List.cons_append, steps_ask _ _ _ s _ rfl (exec_txByte b _ hopen)]
    refine (ih { s with txFcs := crcUpdate s.txFcs b, txTyped := true, sent := s.sent ++ escapeBytes b } hopen).trans ?_
    simp

/-- Settles O22: the opening marker, the content's bytes by induction, then the checksum and the closing marker make up
the wire form. -/
theorem streamedFrameEqualsSendFrame : Obligations.StreamedFrameEqualsSendFrame := by
  intro t p s hclosed
  have hfirst := steps_ask .txStart ((t :: p).map .txByte ++ [.txEnd]) ((t :: p).length + 1) s _ rfl
    (exec_txStart _ hclosed)
  have hbytes := steps_ask_txBytes (t :: p) [.txEnd] 1
    { s with txFcs := Config.crcSeed, txOpen := true, txTyped := false, sent := s.sent ++ [Config.flag] } rfl
  have hlast (r : State) (hopen : r.txOpen = true) (htyped : r.txTyped = true) :=
    steps_ask .txEnd [] 0 r _ rfl (exec_txEnd (r.ask []) hopen htyped)
  refine hfirst.trans (hbytes.trans ((hlast _ rfl rfl).trans ?_))
  simp [steps, State.ask, wire, crc]

/-! ### Frames never interleave -/

/-- The wire forms of frames, one after another. -/
def wireAll (frames : List (Byte × List Byte)) : List Byte := frames.flatMap fun f => wire f.1 f.2

theorem wireAll_concat (frames : List (Byte × List Byte)) (t : Byte) (p : List Byte) :
    wireAll (frames ++ [(t, p)]) = wireAll frames ++ wire t p := by
  simp [wireAll]

/-- What stands on the wire after `base`: whole frames, and while a streamed frame is open its opening marker and its
escaped content, of which `tx_fcs` is the checksum; a typed frame has content. -/
inductive FramesSince (base : List Byte) (s : State) : Prop
  | closed (frames : List (Byte × List Byte)) (hclosed : s.txOpen = false) (hsent : s.sent = base ++ wireAll frames)
  | opened (frames : List (Byte × List Byte)) (content : List Byte) (hopen : s.txOpen = true)
      (hsent : s.sent = base ++ wireAll frames ++ Config.flag :: content.flatMap escapeBytes)
      (hfcs : s.txFcs = crc content) (htyped : s.txTyped = true → content ≠ [])

/-- Only the transmitter and the outgoing stream count. -/
theorem FramesSince.congr {base : List Byte} {s t : State} (h : FramesSince base s) (htx : SameTransmitter s t)
    (hsent : t.sent = s.sent) : FramesSince base t := by
  obtain ⟨hfcs, hopen, htyped⟩ := htx
  cases h with
  | closed frames hc hs => exact .closed frames (hopen.trans hc) (hsent.trans hs)
  | opened frames content ho hs hf ht =>
    exact .opened frames content (hopen.trans ho) (hsent.trans hs) (hfcs.trans hf) fun h => ht (htyped ▸ h)

/-- A call of the transmit path, `EMIT_ESCAPED` apart, adds a whole frame, or opens, extends or ends a streamed one. -/
theorem FramesSince.transmitCall {base : List Byte} {s t : State} {i : Instr} (h : FramesSince base s)
    (hcall : TransmitCall s i t) (hi : ∀ b, i ≠ .emitEscaped b) : FramesSince base t := by
  cases hcall with
  | emitEscaped b => exact absurd rfl (hi b)
  | sendFrame typeByte payload closed =>
    cases h with
    | closed frames _ hs =>
      exact .closed (frames ++ [(typeByte, payload)]) closed (by simp [hs, wireAll_concat])
    | opened _ _ ho => exact absurd (closed.symm.trans ho) Bool.false_ne_true
  | txStart closed =>
    cases h with
    | closed frames _ hs => exact .opened frames [] rfl (by simp [hs]) rfl (by simp)
    | opened _ _ ho => exact absurd (closed.symm.trans ho) Bool.false_ne_true
  | txByte b opened =>
    cases h with
    | closed _ hc => exact absurd (hc.symm.trans opened) Bool.false_ne_true
    | opened frames content _ hs hf =>
      exact .opened frames (content ++ [b]) opened (by simp [hs]) (by simp [hf, crc_concat]) (by simp)
  | txEnd opened typed =>
    cases h with
    | closed _ hc => exact absurd (hc.symm.trans opened) Bool.false_ne_true
    | opened frames content _ hs hf ht =>
      obtain ⟨typeByte, payload, rfl⟩ := List.exists_cons_of_ne_nil (ht typed)
      exact .closed (frames ++ [(typeByte, payload)]) rfl (by simp [hs, hf, wireAll_concat, wire])

/-- A request that is neither `RESET` nor a bare `EMIT_ESCAPED`. -/
def FrameRequest (r : Request) : Prop := r ≠ .call .reset ∧ ∀ b : Byte, r ≠ .call (.emitEscaped b)

theorem FramesSince.taken {base : List Byte} {s t : State} {r : Request} (h : FramesSince base s)
    (htaken : Taken s r t) (hr : FrameRequest r) : FramesSince base t := by
  cases htaken with
  | wire b _ hb | byteReceive b _ hb =>
    have hframe := byteReceive_receiveFrame hb
    exact h.congr hframe.transmitter hframe.sent
  | crcUpdate c b => exact h.congr ⟨rfl, rfl, rfl⟩ rfl
  | reset => exact absurd rfl hr.1
  | transmit i _ hcall => exact h.transmitCall hcall fun b hb => hr.2 b (hb ▸ rfl)

/-- Requests that are all taken keep the frames apart, by induction on the requests. -/
theorem FramesSince.steps {base : List Byte} {s u : State} {reqs rest : List Request} (h : FramesSince base s)
    (hin : s.inputs = reqs ++ rest) (hreqs : ∀ r ∈ reqs, FrameRequest r)
    (hu : Machine.steps reqs.length s = .next u) : FramesSince base u := by
  induction reqs generalizing s with
  | nil =>
    cases hu
    exact h
  | cons r reqs ih =>
    rw [List.length_cons, Machine.steps] at hu
    split at hu
    case h_1 t ht =>
      obtain ⟨hidle, -⟩ | ⟨r', rest', hin', htaken⟩ := step_taken s t ht
      · rw [hin] at hidle
        cases hidle
      obtain ⟨rfl, rfl⟩ : r = r' ∧ reqs ++ rest = rest' := List.cons.inj (hin.symm.trans hin')
      have hstart : FramesSince base { s with inputs := reqs ++ rest } := h.congr (.refl s) rfl
      exact ih (hstart.taken htaken (hreqs r List.mem_cons_self)) htaken.history.2.2.2.2
        (fun q hq => hreqs q (List.mem_cons_of_mem r hq)) hu
    case h_2 => cases hu
    case h_3 => cases hu

/-- Settles O59: with no frame open nothing stands on the wire yet, and every taken request keeps the frames apart. -/
theorem framesNeverInterleave : Obligations.FramesNeverInterleave := by
  intro s u reqs rest hin hclosed hreqs hu
  have hstart : FramesSince s.sent s := .closed [] hclosed (by simp [wireAll])
  cases hstart.steps hin hreqs hu with
  | closed frames hc hs =>
    exact ⟨frames, [], by simpa [wireAll] using hs, fun _ => rfl,
      fun ho => absurd (hc.symm.trans ho) Bool.false_ne_true⟩
  | opened frames content ho hs hf =>
    exact ⟨frames, _, hs, fun hc => absurd (hc.symm.trans ho) Bool.false_ne_true, fun _ => ⟨content, rfl, hf⟩⟩

end Sys2Proof.Machine
end

section
/-! The invariant (R26, R27, R58): kept by every received byte and by every step. -/

namespace Sys2Proof.Machine

/-! ### The receiver's invariant -/

/-- With the frame reset, only the parameter and the buffer count. -/
theorem ReceiverInv.of_frameReset {s t : State} (h : ReceiverInv s) (hmax : t.maxFrameLength = s.maxFrameLength)
    (hbuf : t.buffer = s.buffer) (hpos : t.position = 0) (hsum : t.runningChecksum = Config.crcSeed) :
    ReceiverInv t := by
  obtain ⟨hparam, hbound, -, hwf, hcells⟩ := h
  refine ⟨hmax ▸ hparam, ?_, ?_, hbuf ▸ hwf, ?_⟩
  · rw [hpos, hmax]
    exact hparam
  · rw [hsum, hpos, Memory.slice_empty, crc_nil]
  · rw [hbuf, hmax]
    exact hcells

/-- The invariant speaks of the receiver's buffer, position and checksum and of the parameter alone. -/
theorem ReceiverInv.congr {s t : State} (h : ReceiverInv s) (hmax : t.maxFrameLength = s.maxFrameLength)
    (hbuf : t.buffer = s.buffer) (hpos : t.position = s.position) (hsum : t.runningChecksum = s.runningChecksum) :
    ReceiverInv t := by
  obtain ⟨hparam, hbound, hlag, hwf, hcells⟩ := h
  exact ⟨hmax ▸ hparam, by rwa [hpos, hmax], by rwa [hsum, hbuf, hpos], hbuf ▸ hwf, by rwa [hbuf, hmax]⟩

/-- What a slice holds after the cell at its end is written. -/
theorem slice_write_succ (m : Memory) (i : Nat) (d : Byte) (h : Memory.wf m = true) :
    (m.write i d).slice 0 (i + 1) = m.slice 0 i ++ [d] := by
  rw [Memory.slice_succ, Memory.slice_write m i i d h le_rfl, Memory.read_write_same m i d h]

/-- The checksum's lag of two bytes, after one more byte is stored (R27, R159). -/
theorem storeByte_lag (d : Byte) {s : State} (h : ReceiverInv s) :
    (storeByte d s).runningChecksum = crc ((s.buffer.write s.position d).slice 0 (s.position + 1 - 2)) := by
  rw [storeByte_runningChecksum, h.lag]
  by_cases h2 : 2 ≤ s.position
  · have hprev : s.position + 1 - 2 = s.position - 2 + 1 := by omega
    rw [if_pos h2, hprev, Memory.slice_succ, crc_concat, Memory.slice_write _ _ _ _ h.canonical (by omega)]
  · have hnone : s.position - 2 = 0 ∧ s.position + 1 - 2 = 0 := by omega
    rw [if_neg h2, hnone.1, hnone.2, Memory.slice_empty, Memory.slice_empty]

/-- Storage below the bound. -/
theorem ReceiverInv.storeByte {s : State} (h : ReceiverInv s) (d : Byte) (hroom : s.position + 1 < s.maxFrameLength) :
    ReceiverInv (storeByte d s) := by
  refine ⟨h.parameter, hroom, storeByte_lag d h, Memory.wf_write _ _ _ h.canonical, fun c hc => ?_⟩
  obtain rfl | hc := Memory.mem_write _ _ _ _ hc
  · exact h.bound
  · exact h.cells c hc

/-- The byte that fills the frame is stored and the frame is dropped (R160, R162). -/
theorem ReceiverInv.overflowCheck_storeByte {s : State} (h : ReceiverInv s) (d : Byte) :
    ReceiverInv (overflowCheck (Machine.storeByte d s)) := by
  by_cases hfull : s.position + 1 = s.maxFrameLength
  · have heq : overflowCheck (Machine.storeByte d s) = frameReset (Machine.storeByte d s) := if_pos hfull
    rw [heq]
    refine ⟨h.parameter, h.parameter, rfl, Memory.wf_write _ _ _ h.canonical, fun c hc => ?_⟩
    obtain rfl | hc := Memory.mem_write _ _ _ _ hc
    · exact h.bound
    · exact h.cells c hc
  · have heq : overflowCheck (Machine.storeByte d s) = Machine.storeByte d s := if_neg hfull
    have hroom : s.position + 1 < s.maxFrameLength := by have := h.bound; omega
    rw [heq]
    exact h.storeByte d hroom

theorem ReceiverInv.storeThenCheck {s t : State} {d : Byte} (h : ReceiverInv s)
    (hstore : storeThenCheck d s = .next t) : ReceiverInv t := by
  obtain ⟨-, rfl⟩ := (storeThenCheck_next d s t).1 hstore
  exact h.overflowCheck_storeByte d

/-- Every received byte keeps the receiver's invariant. -/
theorem ReceiverInv.byteReceive {s t : State} {b : Byte} (h : ReceiverInv s)
    (hb : exec (.byteReceive b) s = .next t) : ReceiverInv t := by
  obtain ⟨-, c, rfl, -⟩ | ⟨-, -, -, rfl⟩ | ⟨-, -, rfl⟩ | ⟨-, -, hstore⟩ | ⟨-, -, -, hstore⟩ :=
    execByteReceive_cases b s t hb
  · exact h.of_frameReset (by simp) (by simp) (by simp) (by simp)
  · exact h.of_frameReset rfl rfl rfl rfl
  · exact h.congr rfl rfl rfl rfl
  · exact (h.congr (t := clearEscape s) rfl rfl rfl rfl).storeThenCheck hstore
  · exact h.storeThenCheck hstore

theorem ReceiverInv.completes {s : State} (h : ReceiverInv s) (b : Byte) : ∃ t, exec (.byteReceive b) s = .next t :=
  byteReceive_completes b s h.bound.le

/-! ### Deliveries -/

/-- Two bytes that make up the seed are both FF. -/
theorem bytes_of_joinBytes_seed {hi lo : Byte} (h : Config.crcSeed = joinBytes hi lo) : hi = 0xFF ∧ lo = 0xFF := by
  have hnat : 65535 = hi.toNat * 256 + lo.toNat := by rw [← joinBytes_toNat, ← h]; rfl
  have hhi := hi.isLt
  have hlo := lo.isLt
  constructor <;> apply BitVec.eq_of_toNat_eq <;> simp <;> omega

theorem runningChecksum_eq_rxFcs {s : State} (h : s.frameMatches = true) : s.runningChecksum = s.rxFcs := by
  simp [State.frameMatches] at h
  exact h.2

/-- A record with a type byte holds the content, first byte and rest (R190, R194). -/
theorem delivery_content {s : State} (h : 3 ≤ s.position) :
    s.delivery.typeByte :: s.delivery.payload = s.content := by
  have hlen : s.position - 2 - 0 = s.position - 2 - 1 + 1 := by omega
  simp only [State.delivery, State.content, Memory.slice, hlen, List.range'_succ, List.map_cons]

/-- The delivery of two stored bytes is the degenerate record: only FF FF matches the seed (R193). -/
theorem delivery_degenerate {s : State} (h : ReceiverInv s) (hm : s.frameMatches = true) (hpos : s.position = 2) :
    s.delivery = { typeByte := 0xFF, payload := [], length := -1 } := by
  have hseed : s.runningChecksum = Config.crcSeed := by rw [h.lag, hpos, Memory.slice_empty, crc_nil]
  have hjoin : Config.crcSeed = joinBytes (s.buffer.read 1) (s.buffer.read 0) := by
    have hfcs := runningChecksum_eq_rxFcs hm
    rw [State.rxFcs, hpos] at hfcs
    exact hseed.symm.trans hfcs
  have hlow : s.buffer.read 0 = 0xFF := (bytes_of_joinBytes_seed hjoin).2
  simp [State.delivery, hpos, hlow, slice_one]

/-- A frame that is delivered has the shape and the range of R190. -/
theorem delivery_ok {s : State} (h : ReceiverInv s) (hm : s.frameMatches = true) :
    DeliveryOk s.maxFrameLength s.delivery := by
  have hpos := ((frameMatches_iff s).1 hm).1
  have hbound := h.bound
  by_cases h3 : 3 ≤ s.position
  · have hlen : s.delivery.length = (s.delivery.payload.length : Int) := by
      simp only [State.delivery, Memory.slice_length]
      omega
    refine ⟨by simp [deliveryShape, hlen], ?_, ?_⟩ <;> simp only [State.delivery] <;> omega
  · rw [delivery_degenerate h hm (by omega)]
    exact ⟨rfl, le_rfl, by simp only; omega⟩

/-! ### Every step -/

/-- A call of the transmit path keeps the transmitter's invariant. -/
theorem TransmitterInv.transmitCall {s t : State} {i : Instr} (h : TransmitterInv s) (hcall : TransmitCall s i t) :
    TransmitterInv t := by
  cases hcall with
  | emitEscaped | sendFrame => exact ⟨h.typed, h.untyped⟩
  | txStart => exact ⟨fun _ => rfl, fun _ _ => rfl⟩
  | txByte b opened => exact ⟨fun _ => opened, fun _ ht => absurd ht.symm Bool.false_ne_true⟩
  | txEnd => exact ⟨fun ht => ht, fun ho _ => absurd ho Bool.false_ne_true⟩

theorem TransmitterInv.congr {s t : State} (h : TransmitterInv s) (htx : SameTransmitter s t) : TransmitterInv t := by
  obtain ⟨hfcs, hopen, htyped⟩ := htx
  refine ⟨?_, ?_⟩
  · rw [htyped, hopen]
    exact h.typed
  · rw [htyped, hopen, hfcs]
    exact h.untyped

theorem Inv.byteReceive {s t : State} {b : Byte} (h : Inv s) (hb : exec (.byteReceive b) s = .next t) : Inv t := by
  obtain ⟨htx, -, hmax, -, -⟩ := byteReceive_receiveFrame hb
  refine ⟨h.receiver.byteReceive hb, h.transmitter.congr htx, ?_⟩
  rw [hmax]
  obtain hsame | ⟨-, -, hm, hadd⟩ := byteReceive_delivered hb
  · rw [hsame]
    exact h.deliveries
  · rw [hadd]
    intro d hd
    obtain hd | hd := List.mem_append.1 hd
    · exact h.deliveries d hd
    · rw [List.mem_singleton.1 hd]
      exact delivery_ok h.receiver hm

/-- What a request leaves meets the invariant. -/
theorem Inv.taken {s t : State} {r : Request} (h : Inv s) (htaken : Taken s r t) : Inv t := by
  cases htaken with
  | wire b _ hb | byteReceive b _ hb => exact h.byteReceive hb
  | crcUpdate c b =>
    exact ⟨h.receiver.congr rfl rfl rfl rfl, h.transmitter.congr (.refl s), h.deliveries⟩
  | reset =>
    exact ⟨h.receiver.of_frameReset rfl rfl rfl rfl,
      ⟨fun ht => ht, fun ho _ => absurd ho Bool.false_ne_true⟩, h.deliveries⟩
  | transmit i _ hcall =>
    obtain ⟨⟨hbuf, hpos, hsum, -⟩, hdel, ⟨hmax, -, -⟩, -⟩ := hcall.frame
    refine ⟨h.receiver.congr hmax hbuf hpos hsum, h.transmitter.transmitCall hcall, ?_⟩
    rw [hdel, hmax]
    exact h.deliveries

/-- The requests still to come are no part of the invariant. -/
theorem Inv.withInputs {s : State} (h : Inv s) (rest : List Request) : Inv { s with inputs := rest } :=
  ⟨h.receiver.congr rfl rfl rfl rfl, h.transmitter.congr (.refl s), h.deliveries⟩

/-- Settles O48: the first request is taken off, and whatever it is, what it leaves meets the invariant. -/
theorem stepKeepsInvariant : Obligations.StepKeepsInvariant := by
  intro s t h hstep
  obtain ⟨-, rfl⟩ | ⟨r, rest, -, htaken⟩ := step_taken s t hstep
  · exact h
  · exact (h.withInputs rest).taken htaken

theorem inv_atReset (n : Nat) (h : 1 ≤ n) : Inv (State.atReset n) :=
  ⟨⟨h, h, rfl, rfl, by simp⟩, ⟨fun ht => ht, fun ho _ => absurd ho Bool.false_ne_true⟩, by simp⟩

/-- Settles O49: at construction no byte is stored, no frame is open and nothing is delivered. -/
theorem constructedStateMeetsInvariant : Obligations.ConstructedStateMeetsInvariant :=
  ⟨inv_atReset, inv_atReset _ (by decide)⟩

/-- Settles O55: only a marker that closes a valid frame delivers; the lag makes the compared checksum the content's. -/
theorem deliveredFrameFits : Obligations.DeliveredFrameFits := by
  intro s t d h hstep hdel
  obtain ⟨-, rfl⟩ | ⟨r, rest, -, htaken⟩ := step_taken s t hstep
  · simp at hdel
  obtain hsame | ⟨-, -, hm, hadd⟩ := htaken.delivered
  · rw [hsame] at hdel
    simp at hdel
  have hmatch : s.frameMatches = true := hm
  have hboth : s.delivered ++ [s.delivery] = s.delivered ++ [d] := hadd.symm.trans hdel
  obtain rfl : s.delivery = d := by simpa using hboth
  have hpos := ((frameMatches_iff s).1 hmatch).1
  refine ⟨hpos, h.receiver.bound, delivery_ok h.receiver hmatch, fun hlen => ?_, fun hlen => ?_⟩
  · have hcontent : s.delivery.typeByte :: s.delivery.payload = s.content :=
      delivery_content (by simp only [State.delivery] at hlen; omega)
    rw [hcontent, State.content, ← h.receiver.lag]
    exact ⟨rfl, runningChecksum_eq_rxFcs hmatch⟩
  · exact delivery_degenerate h.receiver hmatch (by simp only [State.delivery] at hlen; omega)

end Sys2Proof.Machine
end

section
/-! Bytes received in order (R161): the in-progress frame accumulates, a marker ends it, and a whole frame is
delivered. -/

namespace Sys2Proof.Machine

/-! ### Bytes in order -/

/-- The first byte fed is received, the others still to come, and the state is otherwise that of the receipt alone. -/
theorem step_feed_cons (s : State) (b : Byte) (bytes : List Byte) :
    step (s.feed (b :: bytes)) = mapNext (·.feed bytes) (exec (.byteReceive b) s) := by
  have hrun : step (s.feed (b :: bytes)) = exec (.byteReceive b) (s.feed bytes) :=
    (step_wire (s.feed (b :: bytes)) b (s.feed bytes).inputs rfl).trans
      (exec_byteReceive_eq_classOf (s.feed bytes) b).symm
  have hothers : s.feed bytes = s.withOthers (s.feed bytes) := rfl
  rw [hrun, hothers, exec_byteReceive_withOthers]
  cases h : exec (.byteReceive b) s
  case next t =>
    obtain ⟨⟨hfcs, hopen, htyped⟩, hsent, -, hin, hret⟩ := byteReceive_receiveFrame h
    simp only [mapNext, State.withOthers, State.feed, ← hfcs, ← hopen, ← htyped, ← hsent, ← hin, ← hret]
  case fault => rfl
  case refused => rfl

/-- Receiving bytes from the wire is `BYTE_RECEIVE` of each, in order. -/
theorem receive_eq_runRows (bytes : List Byte) (s : State) :
    s.receive bytes = runRows (bytes.map .byteReceive) s := by
  induction bytes generalizing s with
  | nil => rfl
  | cons b bytes ih =>
    rw [State.receive, List.length_cons, steps, step_feed_cons, List.map_cons, runRows]
    cases exec (.byteReceive b) s
    case next t => exact ih t
    case fault => rfl
    case refused => rfl

theorem runRows_append {rows rows' : List Instr} {s t : State} (h : runRows rows s = .next t) :
    runRows (rows ++ rows') s = runRows rows' t := by
  induction rows generalizing s with
  | nil =>
    cases h
    rfl
  | cons i rows ih =>
    rw [runRows] at h
    rw [List.cons_append, runRows]
    cases hi : exec i s <;> rw [hi] at h
    case next => exact ih h
    case fault => cases h
    case refused => cases h

/-- The receiver takes the bytes and is then in the second state. -/
def Receives (s : State) (bytes : List Byte) (t : State) : Prop := s.receive bytes = .next t

theorem Receives.nil (s : State) : Receives s [] s := rfl

theorem Receives.single {s t : State} {b : Byte} (h : exec (.byteReceive b) s = .next t) : Receives s [b] t := by
  rw [Receives, receive_eq_runRows]
  exact runRows_cons _ [] s t h

theorem Receives.append {s t u : State} {xs ys : List Byte} (h : Receives s xs t) (h' : Receives t ys u) :
    Receives s (xs ++ ys) u := by
  rw [Receives, receive_eq_runRows] at *
  rw [List.map_append, runRows_append h, h']

theorem Receives.cons {s t u : State} {b : Byte} {bytes : List Byte} (h : exec (.byteReceive b) s = .next t)
    (h' : Receives t bytes u) : Receives s (b :: bytes) u :=
  (Receives.single h).append h'

/-- What every received byte completes with and keeps, every byte sequence does. -/
theorem receives_of_forall_byte {P : State → Prop}
    (hbyte : ∀ s b, P s → ∃ t, exec (.byteReceive b) s = .next t ∧ P t) (bytes : List Byte) (s : State) (h : P s) :
    ∃ t, Receives s bytes t ∧ P t := by
  induction bytes generalizing s with
  | nil => exact ⟨s, .nil s, h⟩
  | cons b bytes ih =>
    obtain ⟨t, ht, hPt⟩ := hbyte s b h
    obtain ⟨u, hu, hPu⟩ := ih t hPt
    exact ⟨u, .cons ht hu, hPu⟩

/-- Settles O50: every byte completes within the invariant, keeps it, and leaves the rest alone. -/
theorem receiverNeverStops : Obligations.ReceiverNeverStops := by
  intro s bytes h
  have hbyte (r : State) (b : Byte) (hr : Inv r ∧ ReceiveFrame s r) :
      ∃ t, exec (.byteReceive b) r = .next t ∧ Inv t ∧ ReceiveFrame s t := by
    obtain ⟨t, ht⟩ := hr.1.receiver.completes b
    exact ⟨t, ht, hr.1.byteReceive ht, hr.2.trans (byteReceive_receiveFrame ht)⟩
  obtain ⟨t, ht, hinv, htx, hsent, hmax, hin, -⟩ := receives_of_forall_byte hbyte bytes s ⟨h, .refl s⟩
  exact ⟨t, ht, hinv, hin, hsent, htx, hmax⟩

/-- Settles O44: the escape marker and the marker after it, or the marker alone, abort the frame as `RESET` does. -/
theorem resetActsLikeAbort : Obligations.ResetActsLikeAbort := by
  intro s t h
  cases h
  cases he : s.escapePending
  case true => exact ⟨_, Receives.single (execByteReceive_flag_of_pending s he), ⟨rfl, rfl, rfl, rfl⟩, rfl, rfl, rfl⟩
  case false =>
    exact ⟨_, Receives.cons (execByteReceive_esc_of_not_pending s he)
      (.single (execByteReceive_flag_of_pending (setEscape s) rfl)), ⟨rfl, rfl, rfl, rfl⟩, rfl, rfl, rfl⟩

/-! ### The frame in progress -/

/-- The receiver, within its invariant, holds the given bytes of a frame and flag, with the given parameter and
deliveries. -/
structure Receiving (limit : Nat) (delivered : List Delivery) (content : List Byte) (pending : Bool) (s : State) :
    Prop where
  inv : ReceiverInv s
  limit_eq : s.maxFrameLength = limit
  delivered_eq : s.delivered = delivered
  position_eq : s.position = content.length
  stored : s.buffer.slice 0 s.position = content
  flag : s.escapePending = pending

section
variable {limit : Nat} {ds : List Delivery} {content : List Byte} {pending : Bool} {s t : State}

theorem Receiving.of_clean (h : ReceiverInv s) (hclean : ReceiverClean s) :
    Receiving s.maxFrameLength s.delivered [] false s := by
  obtain ⟨hpos, -, hflag⟩ := hclean
  exact ⟨h, rfl, rfl, hpos, by rw [hpos, Memory.slice_empty], hflag⟩

theorem Receiving.clean (h : Receiving limit ds [] false s) : ReceiverClean s := by
  have hpos : s.position = 0 := h.position_eq
  exact ⟨hpos, by rw [h.inv.lag, hpos, Memory.slice_empty, crc_nil], h.flag⟩

theorem Receiving.lt_limit (h : Receiving limit ds content pending s) : content.length < limit := by
  rw [← h.position_eq, ← h.limit_eq]
  exact h.inv.bound

/-- A marker ends the frame in progress, whatever it is. -/
theorem Receiving.of_flag (h : ReceiverInv s) (ht : exec (.byteReceive Config.flag) s = .next t) :
    Receiving s.maxFrameLength t.delivered [] false t := by
  have hmax : t.maxFrameLength = s.maxFrameLength := (byteReceive_receiveFrame ht).surroundings.1
  have hout := Receiving.of_clean (h.byteReceive ht) (byteReceive_flag_clean ht).1
  rwa [hmax] at hout

/-! ### Bytes without a marker -/

/-- One byte is added to the frame in progress while there is room (R159). -/
theorem Receiving.store (h : Receiving limit ds content false s) {d : Byte}
    (hroom : content.length + 1 < limit) (ht : storeThenCheck d s = .next t) :
    Receiving limit ds (content ++ [d]) false t := by
  have hinv := h.inv.storeThenCheck ht
  have hbelow : ¬ s.position + 1 = s.maxFrameLength := by rw [h.position_eq, h.limit_eq]; omega
  obtain ⟨-, rfl⟩ := (storeThenCheck_next d s t).1 ht
  have heq : overflowCheck (storeByte d s) = storeByte d s := if_neg hbelow
  rw [heq] at hinv ⊢
  refine ⟨hinv, h.limit_eq, h.delivered_eq, ?_, ?_, h.flag⟩
  · simp [h.position_eq]
  · rw [storeByte_buffer, storeByte_position, slice_write_succ _ _ _ h.inv.canonical, h.stored]

/-- The byte that fills the frame drops it (R160). -/
theorem Receiving.overflow (h : Receiving limit ds content false s) {d : Byte}
    (hfull : content.length + 1 = limit) (ht : storeThenCheck d s = .next t) : Receiving limit ds [] false t := by
  have hinv := h.inv.storeThenCheck ht
  have hlimit : s.position + 1 = s.maxFrameLength := by rw [h.position_eq, h.limit_eq, hfull]
  obtain ⟨-, rfl⟩ := (storeThenCheck_next d s t).1 ht
  have heq : overflowCheck (storeByte d s) = frameReset (storeByte d s) := if_pos hlimit
  rw [heq] at hinv ⊢
  exact ⟨hinv, h.limit_eq, h.delivered_eq, rfl, by simp, h.flag⟩

theorem Receiving.clearEscape (h : Receiving limit ds content pending s) :
    Receiving limit ds content false (clearEscape s) :=
  ⟨h.inv.congr rfl rfl rfl rfl, h.limit_eq, h.delivered_eq, h.position_eq, h.stored, rfl⟩

theorem Receiving.setEscape (h : Receiving limit ds content pending s) :
    Receiving limit ds content true (setEscape s) :=
  ⟨h.inv.congr rfl rfl rfl rfl, h.limit_eq, h.delivered_eq, h.position_eq, h.stored, rfl⟩

/-- A byte other than a marker is unescaped onto the frame in progress while there is room. -/
theorem Receiving.byte {b : Byte} (h : Receiving limit ds content pending s) (hf : b ≠ Config.flag)
    (hroom : content.length + (unescape pending [b]).length < limit) :
    ∃ t, exec (.byteReceive b) s = .next t ∧
      Receiving limit ds (content ++ unescape pending [b]) (pendingAfter pending [b]) t := by
  obtain ⟨t, ht⟩ := h.inv.completes b
  refine ⟨t, ht, ?_⟩
  rw [exec_byteReceive] at ht
  cases pending
  case true =>
    rw [execByteReceive_of_pending b s hf h.flag] at ht
    exact h.clearEscape.store hroom ht
  case false =>
    obtain rfl | hesc := eq_or_ne b Config.esc
    · rw [execByteReceive_esc_of_not_pending s h.flag] at ht
      cases ht
      simpa using h.setEscape
    · rw [execByteReceive_of_not_marker b s hf hesc h.flag] at ht
      rw [unescape_literal b [] hesc] at hroom ⊢
      rw [pendingAfter_literal b [] hesc]
      exact h.store hroom ht

/-- A byte other than a marker that fills the frame drops it. -/
theorem Receiving.byte_full {b : Byte} (h : Receiving limit ds content pending s) (hf : b ≠ Config.flag)
    (hfull : content.length + (unescape pending [b]).length = limit) :
    ∃ t, exec (.byteReceive b) s = .next t ∧ Receiving limit ds [] false t := by
  obtain ⟨t, ht⟩ := h.inv.completes b
  refine ⟨t, ht, ?_⟩
  rw [exec_byteReceive] at ht
  cases pending
  case true =>
    rw [execByteReceive_of_pending b s hf h.flag] at ht
    exact h.clearEscape.overflow hfull ht
  case false =>
    obtain rfl | hesc := eq_or_ne b Config.esc
    · exact absurd hfull h.lt_limit.ne
    · rw [execByteReceive_of_not_marker b s hf hesc h.flag] at ht
      rw [unescape_literal b [] hesc] at hfull
      exact h.overflow hfull ht

/-- Bytes without a marker accumulate, unescaped, while they fit. -/
theorem Receiving.bytes (w : List Byte) (h : Receiving limit ds content pending s) (hw : Config.flag ∉ w)
    (hroom : content.length + (unescape pending w).length < limit) :
    ∃ t, Receives s w t ∧ Receiving limit ds (content ++ unescape pending w) (pendingAfter pending w) t := by
  induction w generalizing content pending s with
  | nil => exact ⟨s, .nil s, by simpa using h⟩
  | cons b w ih =>
    obtain ⟨hb, hw⟩ := List.ne_and_not_mem_of_not_mem_cons hw
    have hsplit : unescape pending (b :: w) = unescape pending [b] ++ unescape (pendingAfter pending [b]) w :=
      unescape_append pending [b] w
    have hpend : pendingAfter pending (b :: w) = pendingAfter (pendingAfter pending [b]) w :=
      pendingAfter_append pending [b] w
    rw [hsplit, List.length_append] at hroom
    obtain ⟨t, ht, hrecv⟩ := h.byte hb.symm (by omega)
    obtain ⟨u, hu, hout⟩ := ih hrecv hw (by rw [List.length_append]; omega)
    rw [List.append_assoc, ← hsplit, ← hpend] at hout
    exact ⟨u, .cons ht hu, hout⟩

/-- Bytes that unescape to nothing and leave no escape open are none. -/
theorem eq_nil_of_unescape (w : List Byte) (hw : unescape pending w = []) (hp : pendingAfter pending w = false) :
    w = [] := by
  obtain _ | ⟨b, w⟩ := w
  · rfl
  cases pending
  case true => simp at hw
  case false =>
    by_cases hb : b = Config.esc
    · subst hb
      obtain _ | ⟨c, w⟩ := w
      · simp at hp
      · simp at hw
    · simp [unescape_literal b w hb] at hw

/-- Bytes without a marker that fill the frame exactly are dropped (R160). -/
theorem Receiving.bytes_full (w : List Byte) (h : Receiving limit ds content pending s) (hw : Config.flag ∉ w)
    (hfull : content.length + (unescape pending w).length = limit) (hend : pendingAfter pending w = false) :
    ∃ t, Receives s w t ∧ Receiving limit ds [] false t := by
  induction w generalizing content pending s with
  | nil => exact absurd (by simpa using hfull) h.lt_limit.ne
  | cons b w ih =>
    obtain ⟨hb, hw⟩ := List.ne_and_not_mem_of_not_mem_cons hw
    have hsplit : unescape pending (b :: w) = unescape pending [b] ++ unescape (pendingAfter pending [b]) w :=
      unescape_append pending [b] w
    have hpend : pendingAfter (pendingAfter pending [b]) w = false :=
      (pendingAfter_append pending [b] w).symm.trans hend
    rw [hsplit, List.length_append] at hfull
    by_cases hroom : content.length + (unescape pending [b]).length < limit
    · obtain ⟨t, ht, hrecv⟩ := h.byte hb.symm hroom
      obtain ⟨u, hu, hout⟩ := ih hrecv hw (by rw [List.length_append]; omega) hpend
      exact ⟨u, .cons ht hu, hout⟩
    · obtain ⟨t, ht, hout⟩ := h.byte_full hb.symm (by omega)
      have hrest : unescape (pendingAfter pending [b]) w = [] := List.length_eq_zero_iff.1 (by omega)
      rw [eq_nil_of_unescape w hrest hpend]
      exact ⟨t, .single ht, hout⟩

/-- The checksum lags the bytes held by two (R27). -/
theorem Receiving.checksum (h : Receiving limit ds content pending s) :
    s.runningChecksum = crc (content.take (content.length - 2)) := by
  have htake : s.buffer.slice 0 (s.position - 2) = (s.buffer.slice 0 s.position).take (s.position - 2) := by
    rw [Memory.slice, Memory.slice, ← List.map_take, List.take_range'_of_length_ge (by omega)]
    rfl
  rw [h.inv.lag, htake, h.stored, h.position_eq]

/-! ### The closing marker -/

/-- Of a frame of at least two bytes the last two are the received checksum and the others the content (R83, R194). -/
theorem Receiving.split {lo hi : Byte} (h : Receiving limit ds (content ++ [lo, hi]) pending s) :
    s.position = content.length + 2 ∧ s.content = content ∧ s.rxFcs = joinBytes hi lo := by
  have hpos : s.position = content.length + 2 := by simpa using h.position_eq
  have hcells : s.buffer.slice 0 content.length ++ [s.buffer.read content.length, s.buffer.read (content.length + 1)] =
      content ++ [lo, hi] := by
    rw [← h.stored, hpos, Memory.slice_succ, Memory.slice_succ, List.append_assoc]
    rfl
  obtain ⟨hcontent, hlast⟩ := List.append_inj' hcells rfl
  obtain ⟨hlo, hhi⟩ : s.buffer.read content.length = lo ∧ s.buffer.read (content.length + 1) = hi := by
    simpa using hlast
  exact ⟨hpos, by rw [State.content, hpos]; exact hcontent,
    by rw [State.rxFcs, hpos]; exact congrArg₂ joinBytes hhi hlo⟩

/-- The validity test compares the content's checksum with the last two bytes (R153). -/
theorem Receiving.frameMatches_iff {lo hi : Byte} (h : Receiving limit ds (content ++ [lo, hi]) pending s) :
    s.frameMatches = true ↔ crc content = joinBytes hi lo := by
  obtain ⟨hpos, hcontent, hfcs⟩ := h.split
  have hsum : s.runningChecksum = crc content := by rw [h.inv.lag, ← hcontent, State.content]
  simp [State.frameMatches, hsum, hfcs, hpos]

/-- The closing marker of a valid frame delivers it (R153). -/
theorem Receiving.flag_delivers {d : Delivery} (h : Receiving limit ds content false s) (hm : s.frameMatches = true)
    (hd : s.delivery = d) : ∃ t, exec (.byteReceive Config.flag) s = .next t ∧
      Receiving limit (ds ++ [d]) [] false t := by
  have hin : s.comparesOutside = false := comparesOutside_false_of_le s (by have := h.inv.bound; omega)
  have ht : exec (.byteReceive Config.flag) s = .next (frameReset (deliver s.delivery s)) := by
    rw [exec_byteReceive, execByteReceive_flag_of_not_pending s h.flag]
    simp [hin, hm]
  have hout := Receiving.of_flag h.inv ht
  rw [h.limit_eq, frameReset_delivered, deliver_delivered, h.delivered_eq] at hout
  rw [hd] at ht hout
  exact ⟨_, ht, hout⟩

/-- A marker on anything but a valid frame is silent (R154). -/
theorem Receiving.flag_discards (h : Receiving limit ds content false s) (hm : s.frameMatches = false) :
    ∃ t, exec (.byteReceive Config.flag) s = .next t ∧ Receiving limit ds [] false t := by
  obtain ⟨t, ht⟩ := h.inv.completes Config.flag
  have hout := Receiving.of_flag h.inv ht
  obtain hsame | ⟨-, -, hyes, -⟩ := byteReceive_delivered ht
  · rw [h.limit_eq, hsame, h.delivered_eq] at hout
    exact ⟨t, ht, hout⟩
  · exact absurd (hm.symm.trans hyes) Bool.false_ne_true

/-- A marker on an empty frame, the opening marker of the next one, is silent. -/
theorem Receiving.flag_opens (h : Receiving limit ds [] false s) :
    ∃ t, exec (.byteReceive Config.flag) s = .next t ∧ Receiving limit ds [] false t := by
  refine h.flag_discards ?_
  have hpos : s.position = 0 := h.position_eq
  simp [State.frameMatches, hpos]

/-- A frame with a type byte and its own checksum is delivered as that type byte and payload. -/
theorem Receiving.frame_delivers {typeByte : Byte} {payload : List Byte}
    (h : Receiving limit ds (frameBytes typeByte payload) false s) :
    ∃ t, exec (.byteReceive Config.flag) s = .next t ∧
      Receiving limit (ds ++ [{ typeByte := typeByte, payload := payload, length := (payload.length : Int) }]) []
        false t := by
  obtain ⟨hpos, hcontent, -⟩ := h.split
  have hm : s.frameMatches = true := h.frameMatches_iff.2 (joinBytes_lo8_hi8 _).symm
  have hbytes : s.delivery.typeByte :: s.delivery.payload = typeByte :: payload :=
    (delivery_content (by rw [hpos, List.length_cons]; omega)).trans hcontent
  obtain ⟨htype, hpayload⟩ := List.cons.inj hbytes
  have hlength : s.delivery.length = (payload.length : Int) := by
    simp only [State.delivery, hpos, List.length_cons]
    omega
  refine h.flag_delivers hm ?_
  rw [← hlength, ← htype, ← hpayload]

/-- The wire form without its opening marker, on an empty frame, is delivered. -/
theorem Receiving.wire_tail {typeByte : Byte} {payload : List Byte} (h : Receiving limit ds [] false s)
    (hfits : payload.length + 4 ≤ limit) :
    ∃ t, Receives s (wireBody typeByte payload ++ [Config.flag]) t ∧
      Receiving limit (ds ++ [{ typeByte := typeByte, payload := payload, length := (payload.length : Int) }]) []
        false t := by
  have hbody : unescape false (wireBody typeByte payload) = frameBytes typeByte payload :=
    unescape_flatMap_escapeBytes _
  have hlen : (frameBytes typeByte payload).length = payload.length + 3 := by simp [frameBytes, checksumBytes]
  obtain ⟨t, ht, hrecv⟩ := h.bytes (wireBody typeByte payload) (flag_not_mem_flatMap_escapeBytes _)
    (by rw [hbody, hlen, List.length_nil]; omega)
  rw [hbody, wireBody, pendingAfter_flatMap_escapeBytes] at hrecv
  obtain ⟨u, hu, hout⟩ := hrecv.frame_delivers
  exact ⟨u, ht.append (.single hu), hout⟩

/-- The whole wire form, on an empty frame, is delivered. -/
theorem Receiving.wire {typeByte : Byte} {payload : List Byte} (h : Receiving limit ds [] false s)
    (hfits : payload.length + 4 ≤ limit) :
    ∃ t, Receives s (wire typeByte payload) t ∧
      Receiving limit (ds ++ [{ typeByte := typeByte, payload := payload, length := (payload.length : Int) }]) []
        false t := by
  obtain ⟨t, ht, hopen⟩ := h.flag_opens
  obtain ⟨u, hu, hout⟩ := hopen.wire_tail hfits
  rw [wire_eq, List.append_assoc]
  exact ⟨u, .cons ht hu, hout⟩

end

/-! ### Frames that are delivered -/

/-- Settles O51: the frame in progress of a clean receiver is empty, and the bytes accumulate onto it. -/
theorem receivedBytesAccumulate : Obligations.ReceivedBytesAccumulate := by
  intro s w hinv hclean hw hroom
  obtain ⟨u, hu, hrecv⟩ := (Receiving.of_clean hinv hclean).bytes w hw (by simpa using hroom)
  rw [List.nil_append] at hrecv
  refine ⟨u, hu, hrecv.position_eq, hrecv.stored, ?_, hrecv.flag, hrecv.delivered_eq⟩
  rw [hrecv.position_eq]
  exact hrecv.checksum

/-- Settles O52: the sent bytes are the wire form, which a clean receiver delivers with or without its first byte. -/
theorem sentFrameIsDelivered : Obligations.SentFrameIsDelivered := by
  intro a b t p hclosed hinv hclean hfits
  have hempty := Receiving.of_clean hinv hclean
  have htail : (wire t p).tail = wireBody t p ++ [Config.flag] := by rw [wire_eq]; rfl
  obtain ⟨u, hu, hout⟩ := hempty.wire (typeByte := t) (payload := p) hfits
  obtain ⟨u', hu', hout'⟩ := hempty.wire_tail (typeByte := t) (payload := p) hfits
  exact ⟨_, wire t p, exec_sendFrame t p a hclosed, rfl, ⟨u, hu, hout.clean, hout.delivered_eq⟩,
    ⟨u', htail ▸ hu', hout'.clean, hout'.delivered_eq⟩⟩

/-- Every received byte keeps the receiver's invariant, the parameter and the deliveries made. -/
theorem ReceiverInv.receives {s : State} (h : ReceiverInv s) (bytes : List Byte) :
    ∃ t, Receives s bytes t ∧ ReceiverInv t ∧ t.maxFrameLength = s.maxFrameLength ∧ s.delivered <+: t.delivered := by
  refine receives_of_forall_byte (fun r b hr => ?_) bytes s ⟨h, rfl, List.prefix_rfl⟩
  obtain ⟨hinv, hmax, hdel⟩ := hr
  obtain ⟨t, ht⟩ := hinv.completes b
  obtain ⟨hmax', -, hdel', -, -⟩ := (Taken.wire b t ht).history
  exact ⟨t, ht, hinv.byteReceive ht, hmax'.trans hmax, hdel.trans hdel'⟩

/-- Settles O53: whatever stands before it, the opening marker leaves an empty frame, and the rest is delivered. -/
theorem anyStateResynchronises : Obligations.AnyStateResynchronises := by
  intro s noise t p hinv hfits
  obtain ⟨r, hr, hinvr, hmax, hdel⟩ := hinv.receives noise
  obtain ⟨q, hq⟩ := hinvr.completes Config.flag
  obtain ⟨-, -, hdel', -, -⟩ := (Taken.wire _ q hq).history
  obtain ⟨earlier, hearlier⟩ := hdel.trans hdel'
  obtain ⟨u, hu, hout⟩ := (Receiving.of_flag hinvr hq).wire_tail (typeByte := t) (payload := p) (by rwa [hmax])
  refine ⟨u, earlier, ?_, hout.clean, ?_⟩
  · rw [wire_eq, List.append_assoc]
    exact hr.append (.cons hq hu)
  · rw [hout.delivered_eq, hearlier]

/-- Settles O56: the bytes that fill the frame leave it empty, and a frame's bytes are then received as from clean. -/
theorem overflowResidueIsParsed : Obligations.OverflowResidueIsParsed := by
  intro s w t p hinv hclean hw hfull hend
  obtain ⟨u, hu, hempty⟩ := (Receiving.of_clean hinv hclean).bytes_full w hw (by simpa using hfull) hend
  refine ⟨⟨u, hu, hempty.clean, hempty.delivered_eq⟩, fun hfits => ?_⟩
  have htail : (wire t p).tail = wireBody t p ++ [Config.flag] := by rw [wire_eq]; rfl
  obtain ⟨v, hv, hout⟩ := hempty.wire_tail (typeByte := t) (payload := p) hfits
  exact ⟨v, htail ▸ hu.append hv, hout.clean, hout.delivered_eq⟩

/-- Settles O57: the two bytes match the checksum of no content, which is the seed. -/
theorem degenerateFrameDelivered : Obligations.DegenerateFrameDelivered := by
  intro s hinv hclean hthree
  have hbytes : unescape false [0xFF, 0xFF] = [0xFF, 0xFF] := by decide
  obtain ⟨t, ht, hrecv⟩ := (Receiving.of_clean hinv hclean).bytes [0xFF, 0xFF] (by decide)
    (by rw [hbytes]; exact hthree)
  rw [hbytes] at hrecv
  obtain ⟨hpos, -, -⟩ := hrecv.split
  have hm : t.frameMatches = true := hrecv.frameMatches_iff.2 (by decide)
  obtain ⟨u, hu, hout⟩ := hrecv.flag_delivers hm (delivery_degenerate hrecv.inv hm hpos)
  refine ⟨u, _, ht.append (.single hu), hout.clean, hout.delivered_eq, rfl, rfl, rfl, fun width => ?_⟩
  exact BitVec.ofInt_neg.trans BitVec.neg_one_eq_allOnes

/-! ### A changed content byte -/

/-- What a wire byte that is no escape marker is stored as. -/
def storedByte (pending : Bool) (b : Byte) : Byte := if pending then xorEscape b else b

theorem storedByte_injective (pending : Bool) : Function.Injective (storedByte pending) := by
  intro x y h
  cases pending
  case false => exact h
  case true => exact (BitVec.xor_left_inj Config.xorMask).1 h

theorem unescape_cons_of_ne_esc (pending : Bool) (b : Byte) (rest : List Byte) (h : b ≠ Config.esc) :
    unescape pending (b :: rest) = storedByte pending b :: unescape false rest := by
  cases pending
  case false => exact unescape_literal b rest h
  case true => rfl

theorem pendingAfter_cons_of_ne_esc (pending : Bool) (b : Byte) (rest : List Byte) (h : b ≠ Config.esc) :
    pendingAfter pending (b :: rest) = pendingAfter false rest := by
  cases pending
  case false => exact pendingAfter_literal b rest h
  case true => rfl

/-- The place of a wire byte that carries content: the escaped content before it and after it. -/
theorem exists_split_of_wire {t x : Byte} {p before after : List Byte}
    (h : wire t p = [Config.flag] ++ before ++ [x] ++ after)
    (hlen : before.length < ((t :: p).flatMap escapeBytes).length) :
    ∃ rest, (t :: p).flatMap escapeBytes = before ++ x :: rest ∧
      after = rest ++ (checksumBytes t p).flatMap escapeBytes ++ [Config.flag] := by
  have hbody : (t :: p).flatMap escapeBytes ++
      ((checksumBytes t p).flatMap escapeBytes ++ [Config.flag]) = before ++ x :: after := by
    simpa [wire, checksumBytes] using h
  obtain ⟨mid, hbefore, -⟩ | ⟨mid, hcontent, hafter⟩ := List.append_eq_append_iff.1 hbody
  · rw [hbefore, List.length_append] at hlen
    omega
  · obtain _ | ⟨y, rest⟩ := mid
    · rw [hcontent] at hlen
      simp at hlen
    · obtain ⟨rfl, rfl⟩ := List.cons.inj hafter
      exact ⟨rest, hcontent, (List.append_assoc _ _ _).symm⟩

/-- Escaped content with one of its bytes changed, neither value a marker: exactly one content byte is changed, and the
bytes still hold no marker and no open escape. -/
theorem unescape_changed {content before rest : List Byte} {x y : Byte}
    (h : content.flatMap escapeBytes = before ++ x :: rest) (hxesc : x ≠ Config.esc) (hyesc : y ≠ Config.esc)
    (hyflag : y ≠ Config.flag) (hxy : x ≠ y) :
    ∃ c1 c2 d e, d ≠ e ∧ content = c1 ++ d :: c2 ∧ unescape false (before ++ y :: rest) = c1 ++ e :: c2 ∧
      pendingAfter false (before ++ y :: rest) = false ∧ Config.flag ∉ before ++ y :: rest := by
  refine ⟨unescape false before, unescape false rest, storedByte (pendingAfter false before) x,
    storedByte (pendingAfter false before) y, (storedByte_injective _).ne hxy, ?_, ?_, ?_, ?_⟩
  · rw [← unescape_cons_of_ne_esc _ x rest hxesc, ← unescape_append, ← h, unescape_flatMap_escapeBytes]
  · rw [unescape_append, unescape_cons_of_ne_esc _ y rest hyesc]
  · rw [pendingAfter_append, pendingAfter_cons_of_ne_esc _ y rest hyesc, ← pendingAfter_cons_of_ne_esc _ x rest hxesc,
      ← pendingAfter_append, ← h, pendingAfter_flatMap_escapeBytes]
  · have hclear : Config.flag ∉ before ++ x :: rest := h ▸ flag_not_mem_flatMap_escapeBytes content
    simp only [List.mem_append, List.mem_cons, not_or] at hclear ⊢
    exact ⟨hclear.1, hyflag.symm, hclear.2.2⟩

/-- Settles O54: the changed wire byte changes one content byte, so the content's checksum is no longer the one sent. -/
theorem changedContentByteDiscarded : Obligations.ChangedContentByteDiscarded := by
  intro s t p before after x y hinv hclean hfits hwire hlen hxesc _ hyesc hyflag hxy
  obtain ⟨rest, hcontent, rfl⟩ := exists_split_of_wire hwire hlen
  obtain ⟨c1, c2, d, e, hde, hsent, hgot, hend, hnoflag⟩ := unescape_changed hcontent hxesc hyesc hyflag hxy
  have hbody : unescape false (before ++ y :: rest ++ (checksumBytes t p).flatMap escapeBytes) =
      c1 ++ e :: c2 ++ checksumBytes t p := by
    rw [unescape_append, hgot, hend, unescape_flatMap_escapeBytes]
  have hbodyend : pendingAfter false
      (before ++ y :: rest ++ (checksumBytes t p).flatMap escapeBytes) = false := by
    rw [pendingAfter_append, hend, pendingAfter_flatMap_escapeBytes]
  have hcount : p.length + 1 = c1.length + (c2.length + 1) := by simpa using congrArg List.length hsent
  obtain ⟨r, hr, hopen⟩ := (Receiving.of_clean hinv hclean).flag_opens
  obtain ⟨q, hq, hrecv⟩ := hopen.bytes
    (before ++ y :: rest ++ (checksumBytes t p).flatMap escapeBytes)
    (by rw [List.mem_append, not_or]; exact ⟨hnoflag, flag_not_mem_flatMap_escapeBytes _⟩)
    (by rw [hbody]; simp [checksumBytes]; omega)
  rw [hbody, hbodyend, List.nil_append] at hrecv
  have hmismatch : q.frameMatches = false := by
    rw [← Bool.not_eq_true, hrecv.frameMatches_iff, joinBytes_lo8_hi8, hsent]
    exact crc_ne_of_one_byte c1 c2 hde.symm
  obtain ⟨u, hu, hout⟩ := hrecv.flag_discards hmismatch
  refine ⟨u, ?_, hout.clean, hout.delivered_eq⟩
  change Receives s ([Config.flag] ++ before ++ [y] ++ _) u
  simpa [checksumBytes] using Receives.cons hr (hq.append (.single hu))

end Sys2Proof.Machine
end
